-- ==== Sys2Proof/Word.lean ====
section
/-! DEFINITION. The word types of the H212: bytes, ticket numbers and the time unit. -/

namespace Sys2Proof

/-- A byte of the store array, of a frame or of the panel port. -/
abbrev Byte := BitVec 8

/-- A ticket number: 16 bits, compared modulo 65536 (00_scope.md, Tickets). -/
abbrev Ticket := BitVec 16

/-- A 10-bit conversion result of one analog channel (R168). -/
abbrev Raw := BitVec 10

end Sys2Proof
end

