-- ==== Sys2Proof/Syntax.lean ====
section
/-! DEFINITION. The commands of the H212: one constructor of `Instr` per row of spec/opcode_table.json, and the
names, frames and operands they carry. -/

namespace Sys2Proof

/-- The role strapped at start (R3). -/
inductive Role where
  | ovens   -- section station
  | car     -- car station
  deriving DecidableEq, Repr

/-- The kind of a car station (R5 offset 5, R20). -/
inductive CarKind where
  | pusher | guide | quench
  deriving DecidableEq, Repr

/-- A door's side of its oven (section 9.1). -/
inductive Side where
  | pusherSide | cokeSide
  deriving DecidableEq, Repr

/-- STOP origin codes (R20). -/
inductive StopOrigin where
  | stopPin | panel
  deriving DecidableEq, Repr

/-- Abandon reasons, codes 1 to 8 (R20). -/
inductive AbandonReason where
  | noAssent | declined | diverged | carLost | notSpotted | doorTimeout | ownerRestart | stalled
  deriving DecidableEq, Repr

/-- Decline reasons, codes 1 to 5 (R20). -/
inductive DeclineReason where
  | queueFull | fault | unhomed | stopped | range
  deriving DecidableEq, Repr

/-- Oven summaries, codes 0 to 3 (R20, R60). -/
inductive Summary where
  | coking | ripe | busy | skip
  deriving DecidableEq, Repr

/-- Phases of an open-ticket record, codes 1 to 5 (R20, R86). -/
inductive Phase where
  | claimed | assented | opened | gone | stuck
  deriving DecidableEq, Repr

/-- Car states, codes 0 to 6 (R20, R120). -/
inductive CarState where
  | unhomed | homing | idle | moving | spotted | acting | fault
  deriving DecidableEq, Repr

/-- Quench phases, codes 0 to 5 (R20, section 8.1). -/
inductive QuenchPhase where
  | empty | receiving | loaded | quenching | draining | discharging
  deriving DecidableEq, Repr

/-- One roster entry of a section STANDING: oven and summary word (R20). -/
structure RosterItem where
  oven : Nat
  summary : Summary
  minutes : Nat
  deriving DecidableEq, Repr

/-- The common part of STANDING, less the role bit, which the other part tells (R20, R42). -/
structure StandingCommon where
  lineMinute : Nat
  lastDone : Ticket
  openTicket : Ticket
  openOven : Nat
  openPhase : Option Phase
  stopFlag : Bool
  cursor : Nat
  period : Nat
  deriving DecidableEq, Repr

/-- The section part or the car part of STANDING (R20, R42). -/
inductive StandingPart where
  | ofSection (items : List RosterItem)
  | ofCar (kind : CarKind) (position : Option Nat) (state : CarState) (quench : Option QuenchPhase)
      (served : Option Ticket)
  deriving DecidableEq, Repr

/-- The contents of a STANDING (R20, R42). -/
structure Standing where
  common : StandingCommon
  part : StandingPart
  deriving DecidableEq, Repr

/-- A frame of the battery line: its kind and its payload fields (R19, R20). -/
inductive Frame where
  | stop (origin : StopOrigin)
  | resume
  | abandon (ticket : Ticket) (oven : Nat) (reason : AbandonReason)
  | stall (ticket : Ticket) (oven : Nat)
  | claim (ticket : Ticket) (oven : Nat)
  | assent (ticket : Ticket) (oven : Nat) (kind : CarKind)
  | decline (ticket : Ticket) (oven : Nat) (kind : CarKind) (reason : DeclineReason)
  | opening (ticket : Ticket) (oven : Nat)
  | spotted (ticket : Ticket) (oven : Nat) (kind : CarKind)
  | ready (ticket : Ticket) (oven : Nat) (kind : CarKind)
  | go (ticket : Ticket) (oven : Nat)
  | finished (ticket : Ticket) (oven : Nat)
  | aspirate (oven : Nat)
  | aspirateEnd (oven : Nat)
  | oven (oven : Nat) (summary : Summary) (minutes : Nat)
  | standing (body : Standing)
  deriving DecidableEq, Repr

/-- Faults a receiver finds (R30). -/
inductive RxFault where
  | stuff | form | length | check
  deriving DecidableEq, Repr

/-- The inputs that pass a noise rejector (R121, R152, R202); slots are numbered 1 to 8. -/
inductive RejectLine where
  | latch (slot : Nat) (side : Side)
  | leak (slot : Nat) (side : Side)
  | marker
  | home
  | stopn
  deriving DecidableEq, Repr

/-- The commands of the H212, in the order of spec/opcode_table.json. Oven, station, slot, code and byte
operands are numbers; `WellFormed` says which values a sender can give. Levels are true when asserted. -/
inductive Instr where
  | powerOnReset (rstnHeldLow : Bool)
  | rstnLow
  | startSequence (roleHigh : Bool) (stn : Nat)
  | restartReset
  | attemptStart
  | arbitrationLost
  | transmitError
  | attemptComplete
  | receiveFault (f : RxFault)
  | withdrawTimerExpiry
  | stopFrame (src : Nat) (origin : StopOrigin)
  | resumeFrame (src : Nat)
  | abandonFrame (src : Nat) (ticket : Ticket) (oven : Nat) (reason : AbandonReason)
  | stallFrame (src : Nat) (ticket : Ticket) (oven : Nat)
  | claimFrame (src : Nat) (ticket : Ticket) (oven : Nat)
  | assentFrame (src : Nat) (ticket : Ticket) (oven : Nat) (kind : CarKind)
  | declineFrame (src : Nat) (ticket : Ticket) (oven : Nat) (kind : CarKind) (reason : DeclineReason)
  | openFrame (src : Nat) (ticket : Ticket) (oven : Nat)
  | spottedFrame (src : Nat) (ticket : Ticket) (oven : Nat) (kind : CarKind)
  | readyFrame (src : Nat) (ticket : Ticket) (oven : Nat) (kind : CarKind)
  | goFrame (src : Nat) (ticket : Ticket) (oven : Nat)
  | doneFrame (src : Nat) (ticket : Ticket) (oven : Nat)
  | aspirateFrame (src : Nat) (oven : Nat)
  | aspirateEndFrame (src : Nat) (oven : Nat)
  | ovenFrame (src : Nat) (oven : Nat) (summary : Summary) (minutes : Nat)
  | standingFrame (src : Nat) (body : Standing)
  | silenceTimerExpiry (station : Nat)
  | standingPeriodExpiry
  | joinWindowExpiry
  | lineMinuteAdvance
  | pacingTimerExpiry
  | claimBackoffExpiry
  | assentLimitExpiry
  | spotLimitExpiry
  | doorOffLimitExpiry
  | fieldInputChange (line : RejectLine) (level : Bool)
  | rejectTimerExpiry (line : RejectLine)
  | sealSwitchChange (slot : Nat) (side : Side) (level : Bool)
  | inflateLimitExpiry (slot : Nat) (side : Side)
  | leakWindowExpiry (slot : Nat) (side : Side)
  | deflateTimerExpiry (slot : Nat) (side : Side)
  | scanTimerExpiry
  | conversionComplete (raw : Raw)
  | stableTimerExpiry
  | settleTimerExpiry (slot : Nat)
  | positionerPeriodBoundary
  | aspirationExpiry (oven : Nat)
  | listHoldExpiry
  | markerLimitExpiry
  | actDone
  | actFault
  | actionLimitExpiry
  | hotTravelLimitExpiry
  | quenchTimerExpiry
  | drainTimerExpiry
  | storeReadback (isMatch : Bool)
  | readStation
  | readOven (oven : Nat)
  | readDoors (oven : Nat)
  | readPressure
  | readCar
  | readPeers
  | readRoster (first : Nat) (count : Nat)
  | readTicket
  | readCounts
  | readEvents
  | configRead (offset : Nat) (count : Nat)
  | hold (oven : Nat)
  | release (oven : Nat)
  | setTarget (oven : Nat) (target : Nat)
  | setOven (oven : Nat) (state : Nat) (remaining : Nat)
  | outOfService (oven : Nat)
  | returnToService (oven : Nat)
  | confirmClock (oven : Nat)
  | chargeBegin (oven : Nat)
  | chargeEnd (oven : Nat)
  | reseat (oven : Nat) (side : Nat)
  | clearCar
  | resolve (outcome : Nat)
  | batteryStop
  | resumeRequest
  | configWrite (offset : Nat) (bytes : List Byte)
  | restart
  | ackEvents (flags : BitVec 24)
  | setMask (mask : BitVec 24)
  | unknownRequest (code : Nat) (count : Nat)
  deriving DecidableEq, Repr

end Sys2Proof
end

