-- ==== Sys2Proof/Config.lean ====
section
/-! DEFINITION. The fixed times and limits of the part, and the free values: what the spec says results
without saying which value. A free value is an opaque constant applied to the counter `fresh` of State, so
no proof can see what it is. -/

namespace Sys2Proof.Config

/-- One positioner period, in ms (R177). -/
def positionerPeriodMs : Nat := 50

/-- The time from a page write to its read-back, in ms (R189). -/
def pageWriteMs : Nat := 40

/-- Recessive bits in a row that make the line idle (R15). -/
def idleBits : Nat := 12

/-- The attempts after which a frame is dropped (R27). -/
def attemptLimit : Nat := 8

/-- The largest line minute (R43, R44). -/
def lineMinuteMax : Nat := 16777215

/-- Gross minutes stop here (R57). -/
def grossMax : Nat := 4095

/-- A leak count stops here (R156). -/
def leakMax : Nat := 1023

/-- Minutes to ripe are sent capped here (R42, R60). -/
def minutesCap : Nat := 1023

/-- A link counter stays here (R32). -/
def counterMax : Nat := 65535

/-- The move queue holds at most this many entries (R123). -/
def moveQueueMax : Nat := 4

/-- FREE VALUE (log 12): how far a page write had got when a reset cut it off; taken modulo 4, it chooses
one of the four contents of R191. -/
opaque cutChoice : Nat → Nat

/-- FREE VALUE (log 12): byte `i` of a page that a reset left partly erased or partly written (R191). -/
opaque cutByte : Nat → Nat → Byte

/-- FREE VALUE (log 13): byte `i` of a page whose second read-back also mismatched (R189). -/
opaque faultByte : Nat → Nat → Byte

/-- FREE VALUE (log 14): what a byte of a page reads as while that page is being written (R189, R197). -/
opaque midWriteByte : Nat → Nat → Byte

end Sys2Proof.Config
end

