-- ==== Sys2Proof/Machine/State.lean ====
section
/-! DEFINITION. The state of one H212 station: one structure for each block of 00_scope.md, the pins, the reset
cause record, the configuration in use and the queue of commands. Plain data. `State.reset` is the station right
after a power-on reset, before its start sequence. A timer is `none` when stopped and `some ms` when running with
that much time left. -/

namespace Sys2Proof.Machine

/-- No command of the H212 stops the machine with a fault: what its manual calls a fault is state (INVENTORY.md,
Faults). -/
inductive Fault where
  deriving DecidableEq, Repr

/-- Reasons a command may be refused by the model. -/
inductive Refusal where
  /-- An arm of `exec` whose command has no meaning yet raises it; no arm does. Safe: the model stops. -/
  | notModelled (mnemonic : String)
  deriving DecidableEq, Repr

/-- A timer: stopped, or running with its time left in ms. -/
abbrev Timer := Option Nat

/-! ### Pins and identity -/

/-- Input pin levels: ROLE and STN straps, RSTN, STOPN, I[47:0] (section 1.1). -/
structure Pins where
  roleHigh : Bool
  stn : Nat
  rstnLow : Bool
  stopnAsserted : Bool
  inputs : BitVec 48
  deriving DecidableEq, Repr

/-- The cause of a reset (R8). -/
inductive ResetCause where
  | powerOn | pin | panel
  deriving DecidableEq, Repr

/-- The reset cause record (R8); `role` and `station` are the sampled straps (R3). -/
structure ResetRecord where
  cause : ResetCause
  role : Role
  station : Nat
  failOffset : Option Nat
  restored : Nat
  bad : Nat
  deriving DecidableEq, Repr

/-- The configuration in use (R4), one field per row of the table of R5, in its units. -/
structure Cfg where
  standingPeriod : Nat
  probation : Nat
  withdrawThreshold : Nat
  withdrawTime : Nat
  noiseReject : Nat
  carKind : CarKind
  slotCount : Nat
  slotOvens : List Nat
  step : Nat
  shift : Nat
  defaultTarget : Nat
  earlyMinutes : Nat
  earlySetpoint : Int
  normalSetpoint : Int
  deadband : Int
  leakRelief : Int
  settleTime : Nat
  damperFloor : Nat
  damperCeiling : Nat
  scanPeriod : Nat
  channelOffsets : List Int
  mainHysteresis : Int
  mainStableTime : Nat
  mainLowLimit : Int
  aspirationLimit : Nat
  aspirationTime : Nat
  leakWindow : Nat
  leakThreshold : Nat
  cleanCount : Nat
  reseatLimit : Nat
  inflateLimit : Nat
  deflateTime : Nat
  leakFalling : Bool
  assentLimit : Nat
  spotLimit : Nat
  doorOffLimit : Nat
  pacingTime : Nat
  claimBackoff : Nat
  marker1 : Nat
  pitch : Nat
  towerMarker : Nat
  wharfMarker : Nat
  parkMarker : Nat
  markerLimit : Nat
  actionLimit : Nat
  ramLimit : Nat
  quenchTime : Nat
  drainTime : Nat
  hotTravelLimit : Nat
  deriving DecidableEq, Repr

/-! ### Line interface (chapter 2) -/

/-- The line state; `inReset` is the condition of R7 from a reset until the start sequence ends. -/
inductive LineState where
  | joining | active | withdrawn | haltedDuplicate | haltedStrap | haltedConfig | inReset
  deriving DecidableEq, Repr

/-- A frame in a transmit queue (R22, R24, R26). -/
structure Queued where
  frame : Frame
  attempts : Nat
  marked : Bool
  deriving DecidableEq, Repr

/-- The attempt in progress: the copy being sent (R23), and whether a new STANDING took its place in the queue
meanwhile (R22). -/
structure Attempt where
  frame : Frame
  replaced : Bool
  deriving DecidableEq, Repr

/-- The six link counters (R32). -/
structure Counters where
  rxGood : Nat
  rxBad : Nat
  txDone : Nat
  txRetry : Nat
  txDrop : Nat
  lapses : Nat
  deriving DecidableEq, Repr

/-- What the station has read on the line, one bit in every bit time (R14, R15): the recessive bits in a row, counted
to 12, and the bits of the frame under way from its start bit on. -/
structure Listener where
  idle : Nat
  taking : Option (List Bool)
  deriving DecidableEq, Repr

/-- The line interface. -/
structure LineUnit where
  state : LineState
  q0 : List Queued
  q1 : List Queued
  q2 : List Queued
  q3 : List Queued
  attempt : Option Attempt
  /-- the station's own receive stream (R25): frames sent whole and not yet taken -/
  ownReturn : List Frame
  score : Nat
  withdrawTimer : Timer
  counters : Counters
  /-- frames dropped and waiting to be offered again, in the order of their drops (R22, R86, R130, R202) -/
  dropped : List Frame
  /-- the frame on the line began as the station's own attempt, which a transmit error cut off (R26) -/
  cutOff : Bool
  listener : Listener
  deriving DecidableEq, Repr

/-! ### Peer unit (chapter 3) -/

/-- How far a peer is trusted (section 3.1). -/
inductive PeerStanding where
  | absent | probation | inStanding | lapsed
  deriving DecidableEq, Repr

/-- One peer table entry (section 3.1). -/
structure Peer where
  standing : PeerStanding
  count : Nat
  role : Option Role
  kind : Option CarKind
  map : List Nat
  period : Nat
  silence : Timer
  deriving DecidableEq, Repr

/-- The join choice: the common part and the sender's role of one STANDING (R47). -/
structure JoinChoice where
  common : StandingCommon
  role : Role
  deriving DecidableEq, Repr

/-- The peer unit; `table` holds stations 1 to 31 in order, `timeBaseMs` the seconds time base in ms. -/
structure PeerUnit where
  table : List Peer
  lineMinute : Nat
  timeBaseMs : Nat
  standingTimer : Timer
  joinTimer : Timer
  startJoin : Bool
  choice : Option JoinChoice
  heard : Bool
  deriving DecidableEq, Repr

/-! ### Ticket unit (chapters 5 and 6) -/

/-- A set of car kinds: the assent set, the served-ticket marks (R86, R100). -/
structure KindSet where
  pusher : Bool
  guide : Bool
  quench : Bool
  deriving DecidableEq, Repr

/-- The report set (R86). -/
structure ReportSet where
  pusherSpotted : Bool
  pusherReady : Bool
  guideSpotted : Bool
  guideReady : Bool
  quenchSpotted : Bool
  deriving DecidableEq, Repr

/-- The open-ticket record (R86); `claimant` is `none` when unknown. -/
structure Record where
  ticket : Ticket
  oven : Nat
  claimant : Option Nat
  phase : Phase
  assents : KindSet
  reports : ReportSet
  abandonOffered : Bool
  deriving DecidableEq, Repr

/-- A limit of the claimant (R100), with its time left in ms. -/
inductive Limit where
  | stopped
  | running (left : Nat)
  | suspended (left : Nat)
  deriving DecidableEq, Repr

/-- The served-ticket marks (R97, R100): for each kind the peers of it whose STANDING has shown the record's ticket as
served since the kind assented. -/
structure ServedMarks where
  pusher : List Nat
  guide : List Nat
  quench : List Nat
  deriving DecidableEq, Repr

/-- The claimant context (R100). -/
structure Context where
  assent : Limit
  spot : Limit
  doorOff : Limit
  openOffered : Bool
  goOffered : Bool
  served : ServedMarks
  deriving DecidableEq, Repr

/-- An outstanding claim (R82). -/
structure Claim where
  ticket : Ticket
  oven : Nat
  deriving DecidableEq, Repr

/-- The ticket unit. -/
structure TicketUnit where
  record : Option Record
  lastDone : Ticket
  stopFlag : Bool
  claim : Option Claim
  pacing : Timer
  backoff : Timer
  context : Option Context
  deriving DecidableEq, Repr

/-! ### Schedule unit (chapters 3, 4 and 5) -/

/-- Oven states (section 4.1). -/
inductive OvenState where
  | empty | charging | coking | ripe | claimed | pushing | outOfService | unknown
  deriving DecidableEq, Repr

/-- One oven record (R56); `restored` says that the catch-up of R50 applies to it. -/
structure Oven where
  number : Nat
  state : OvenState
  held : Bool
  suspect : Bool
  pending : Bool
  target : Nat
  remaining : Nat
  gross : Nat
  savedMinute : Nat
  restored : Bool
  deriving DecidableEq, Repr

/-- Roster entry states (section 3.5). -/
inductive RosterState where
  | absent | current | stale
  deriving DecidableEq, Repr

/-- One roster entry (R52). -/
structure RosterEntry where
  state : RosterState
  owner : Nat
  summary : Summary
  minutes : Nat
  deriving DecidableEq, Repr

/-- The schedule unit; `ovens` holds slots 1 to the slot count, `roster` ovens 1 to 120. -/
structure SchedUnit where
  ovens : List Oven
  roster : List RosterEntry
  cursor : Nat
  deriving DecidableEq, Repr

/-! ### Door unit (chapter 9) -/

/-- Door states (section 9.1). -/
inductive DoorState where
  | off | inflating | sealed | leaking | reseating | deflated | fault
  deriving DecidableEq, Repr

/-- An input behind the noise rejector: its accepted level and its reject timer (R121, R152, R202). -/
structure Rejected where
  accepted : Bool
  timer : Timer
  deriving DecidableEq, Repr

/-- One door record with its two rejected inputs (R151, R152). -/
structure Door where
  state : DoorState
  leakCount : Nat
  clean : Nat
  attempts : Nat
  window : Timer
  inflate : Timer
  deflate : Timer
  latch : Rejected
  leak : Rejected
  deriving DecidableEq, Repr

/-- The two doors of a slot (section 9.1). -/
structure DoorPair where
  p : Door
  c : Door
  deriving DecidableEq, Repr

/-! ### Pressure unit (chapter 10) -/

/-- One analog channel (R168). -/
structure Channel where
  raw : Raw
  reading : Int
  valid : Bool
  fault : Bool
  deriving DecidableEq, Repr

/-- The main record, less the reading, which stands with channel 0 (R169). -/
structure MainRecord where
  captured : Option Int
  stableTimer : Timer
  stable : Bool
  low : Bool
  deriving DecidableEq, Repr

/-- Damper phases (section 10.3). -/
inductive DamperPhase where
  | closed | aspirate | early | normal
  deriving DecidableEq, Repr

/-- One damper record (R171). -/
structure Damper where
  phase : DamperPhase
  commanded : Nat
  applied : Nat
  settle : Timer
  deriving DecidableEq, Repr

/-- One entry of the aspiration slot list (R179). -/
structure AspirationEntry where
  oven : Nat
  owner : Nat
  left : Nat
  deriving DecidableEq, Repr

/-- The pressure unit; `converting` is the channel in conversion, `boundary` the time to the next positioner
period boundary, `driven` whether POS is driven (R177). -/
structure PressureUnit where
  scanTimer : Timer
  converting : Option Nat
  channels : List Channel
  main : MainRecord
  dampers : List Damper
  driven : Bool
  boundary : Timer
  entries : List AspirationEntry
  listHold : Timer
  deriving DecidableEq, Repr

/-! ### Car unit (chapters 7 and 8) -/

/-- Machine actions, in the order of their codes (R2). -/
inductive Action where
  | pull | ram | replace | discharge
  deriving DecidableEq, Repr

/-- Purposes of a move (R123). -/
inductive Purpose where
  | spot | tower | wharf | park | home
  deriving DecidableEq, Repr

/-- An entry of the move queue (R123): HOME has no target, only an assented SPOT has a ticket. -/
structure Move where
  purpose : Purpose
  target : Option Nat
  ticket : Option Ticket
  deriving DecidableEq, Repr

/-- The direction of a move (R124). -/
inductive Direction where
  | fwd | rev
  deriving DecidableEq, Repr

/-- The car unit (R120, R140), its move queue (R123) and its rejected inputs (R121). `inProgress` tells of the head
of the queue; `actionServes` says, while an action runs or a stall is held, that the record it was started for has not
closed (R132, R135). -/
structure CarUnit where
  position : Option Nat
  state : CarState
  action : Option Action
  actionServes : Bool
  served : Option Ticket
  doorHeld : Bool
  stallHeld : Bool
  faultDeclined : Bool
  markerLimit : Timer
  actionLimit : Timer
  queue : List Move
  inProgress : Bool
  direction : Direction
  quench : QuenchPhase
  hotTravel : Timer
  quenchTimer : Timer
  drainTimer : Timer
  marker : Rejected
  home : Rejected
  deriving DecidableEq, Repr

/-! ### Store unit (chapter 11) -/

/-- The store array as a list of (address, byte), strictly rising, no byte 0: an unlisted address reads 0
(R4, R185). -/
abbrev Memory := List Host.Cell

/-- A record of the store (R188); `ovenOf k` is the record of slot k + 1. -/
inductive RecordId where
  | station
  | ovenOf (slot : Nat)
  deriving DecidableEq, Repr

/-- The page write in progress (R189, R194): its page and captured bytes, whether it is the rewrite, the further
pages of a configuration write, and the time to the read-back. -/
structure PageWrite where
  page : Nat
  bytes : List Byte
  rewrite : Bool
  rest : List (Nat × List Byte)
  left : Nat
  deriving DecidableEq, Repr

/-- The store unit; `wanted` gathers the requests of the event being taken (R188). -/
structure StoreUnit where
  array : Memory
  queue : List RecordId
  write : Option PageWrite
  wanted : List RecordId
  deriving DecidableEq, Repr

/-! ### Panel port (chapter 12) -/

/-- Panel answers, in the order of their codes (R195). -/
inductive Answer where
  | accepted | busy | refused | range | role
  deriving DecidableEq, Repr

/-- What a transaction shifts back: the answer and the data (R195). -/
structure Reply where
  answer : Answer
  data : List Byte
  deriving DecidableEq, Repr

/-- A transaction in progress (R195): the bits of PSDI sampled since PCSN became active, in order, and how many had been
sampled at the last falling edge of PSCK, which is the place of the bit that PSDO presents. -/
structure Transaction where
  bits : List Bool
  shown : Nat
  deriving DecidableEq, Repr

/-- The panel port; `transaction` is none while PCSN is inactive (R195), `reply` the answer of the request taken last,
`restartPending` a RESTART waiting for PCSN (R199). -/
structure PanelUnit where
  events : BitVec 20
  mask : BitVec 20
  stopn : Rejected
  transaction : Option Transaction
  reply : Option Reply
  restartPending : Bool
  deriving DecidableEq, Repr

/-! ### The station -/

/-- The state of the station. -/
structure State where
  /-- commands waiting, first in first out -/
  pending : List Instr
  pins : Pins
  resetRecord : ResetRecord
  cfg : Cfg
  line : LineUnit
  peer : PeerUnit
  ticket : TicketUnit
  sched : SchedUnit
  door : List DoorPair
  press : PressureUnit
  car : CarUnit
  store : StoreUnit
  panel : PanelUnit
  /-- the model's own counter that the free values are applied to -/
  fresh : Nat
  deriving DecidableEq, Repr

/-! ### Reset values -/

/-- No timer, not asserted. -/
def Rejected.idle : Rejected := { accepted := false, timer := none }

/-- The fields read from a blank block: no configuration is in use before a block passes (log 4). -/
def Cfg.blank : Cfg where
  standingPeriod := 0
  probation := 0
  withdrawThreshold := 0
  withdrawTime := 0
  noiseReject := 0
  carKind := .pusher
  slotCount := 0
  slotOvens := []
  step := 0
  shift := 0
  defaultTarget := 0
  earlyMinutes := 0
  earlySetpoint := 0
  normalSetpoint := 0
  deadband := 0
  leakRelief := 0
  settleTime := 0
  damperFloor := 0
  damperCeiling := 0
  scanPeriod := 0
  channelOffsets := []
  mainHysteresis := 0
  mainStableTime := 0
  mainLowLimit := 0
  aspirationLimit := 0
  aspirationTime := 0
  leakWindow := 0
  leakThreshold := 0
  cleanCount := 0
  reseatLimit := 0
  inflateLimit := 0
  deflateTime := 0
  leakFalling := false
  assentLimit := 0
  spotLimit := 0
  doorOffLimit := 0
  pacingTime := 0
  claimBackoff := 0
  marker1 := 0
  pitch := 0
  towerMarker := 0
  wharfMarker := 0
  parkMarker := 0
  markerLimit := 0
  actionLimit := 0
  ramLimit := 0
  quenchTime := 0
  drainTime := 0
  hotTravelLimit := 0

/-- All six link counters at 0 (R32). -/
def Counters.zero : Counters := ⟨0, 0, 0, 0, 0, 0⟩

/-- Nothing read on the line: the idle count of the entry into JOINING from the start sequence (R15). -/
def Listener.reset : Listener := ⟨0, none⟩

/-- The line interface after reset (chapter 2, R7, R11). -/
def LineUnit.reset : LineUnit where
  state := .inReset
  q0 := []
  q1 := []
  q2 := []
  q3 := []
  attempt := none
  ownReturn := []
  score := 0
  withdrawTimer := none
  counters := .zero
  dropped := []
  cutOff := false
  listener := .reset

/-- A peer entry after reset (R35). -/
def Peer.absent : Peer where
  standing := .absent
  count := 0
  role := none
  kind := none
  map := []
  period := 0
  silence := none

/-- The peer unit after reset (R35, R43). The line minute is 0 until the restore step, and in a start halt, which makes
none (log 4). -/
def PeerUnit.reset : PeerUnit where
  table := List.replicate 31 Peer.absent
  lineMinute := 0
  timeBaseMs := 0
  standingTimer := none
  joinTimer := none
  startJoin := false
  choice := none
  heard := false

/-- The ticket unit after reset (R85, R86, R98, R100). Last-done is 0 until the restore step gives it (R193), and in a
start halt, which makes none (log 4). -/
def TicketUnit.reset : TicketUnit where
  record := none
  lastDone := 0
  stopFlag := false
  claim := none
  pacing := none
  backoff := none
  context := none

/-- A roster entry no station has reported (R52). -/
def RosterEntry.absentEntry : RosterEntry := ⟨.absent, 0, .skip, 0⟩

/-- The schedule unit after reset, before restore (R52, R56, R79); in a start halt, which makes none, the cursor is 0 too
(log 4). -/
def SchedUnit.reset : SchedUnit where
  ovens := []
  roster := List.replicate 120 RosterEntry.absentEntry
  cursor := 0

/-- A channel after reset (R168); the raw value and the reading are DESIGN CHOICE 0 (log 34). -/
def Channel.reset : Channel := ⟨0, 0, false, false⟩

/-- A damper record after reset (R171). -/
def Damper.reset : Damper := ⟨.closed, 0, 0, none⟩

/-- The pressure unit after reset (R169, R171, R179, R181). It keeps no channel and no damper record until the
configuration check has passed, and none in a start halt (log 4). -/
def PressureUnit.reset : PressureUnit where
  scanTimer := none
  converting := none
  channels := []
  main := ⟨none, none, false, false⟩
  dampers := []
  driven := false
  boundary := none
  entries := []
  listHold := none

/-- The car unit after reset (R120, R140). The quench phase is EMPTY until the restore step, and in a start halt, which
makes none (log 4). -/
def CarUnit.reset : CarUnit where
  position := none
  state := .unhomed
  action := none
  actionServes := false
  served := none
  doorHeld := false
  stallHeld := false
  faultDeclined := false
  markerLimit := none
  actionLimit := none
  queue := []
  inProgress := false
  direction := .fwd
  quench := .empty
  hotTravel := none
  quenchTimer := none
  drainTimer := none
  marker := .idle
  home := .idle

/-- The store of a part as delivered (R4, R188). -/
def StoreUnit.delivered : StoreUnit := ⟨[], [], none, []⟩

/-- The panel port after reset: RESET, bit 0, set and every other flag clear, mask 0 (R200, R201). The accepted level of
STOPN is not asserted until the end of the start sequence gives it (R202), and in a start halt (log 4). -/
def PanelUnit.reset : PanelUnit where
  events := 1#20
  mask := 0#20
  stopn := .idle
  transaction := none
  reply := none
  restartPending := false

/-- The station right after a power-on reset of a part as delivered, RSTN high, its start sequence not yet run
(R7, R8; log 3). No door, oven or damper record stands before the restore step, nor in a start halt (log 4). -/
def State.reset : State where
  pending := []
  pins := ⟨false, 0, false, false, 0#48⟩
  resetRecord := ⟨.powerOn, .ovens, 0, none, 0, 0⟩
  cfg := .blank
  line := .reset
  peer := .reset
  ticket := .reset
  sched := .reset
  door := []
  press := .reset
  car := .reset
  store := .delivered
  panel := .reset
  fresh := 0

end Sys2Proof.Machine
end

