-- ==== Sys2Proof/Machine/Flags.lean ====
section
/-! DEFINITION. The event flags, their mask and NOTICE (section 12.4), and the saturating link counters (R32). -/

namespace Sys2Proof.Machine

/-- The 20 event flags (R200). -/
inductive EventFlag where
  | reset | ripe | chargeRefused | aspirationExpired | doorLeak | doorFault | sensorFault | mainLow
  | ticketAbandoned | ticketStuck | peerLapsed | withdrawn | halted | carFault | hotDelay | storeFault
  | clockSuspect | conflict | linkDrop | batteryStop
  deriving DecidableEq, Repr

/-- The bit of a flag (the table of R200). -/
def EventFlag.bit : EventFlag → Nat
  | .reset => 0
  | .ripe => 1
  | .chargeRefused => 2
  | .aspirationExpired => 3
  | .doorLeak => 4
  | .doorFault => 5
  | .sensorFault => 6
  | .mainLow => 7
  | .ticketAbandoned => 8
  | .ticketStuck => 9
  | .peerLapsed => 10
  | .withdrawn => 11
  | .halted => 12
  | .carFault => 13
  | .hotDelay => 14
  | .storeFault => 15
  | .clockSuspect => 16
  | .conflict => 17
  | .linkDrop => 18
  | .batteryStop => 19

/-- The flag word with one flag set. -/
def EventFlag.word (e : EventFlag) : BitVec 20 := 1#20 <<< e.bit

/-- Whether a flag is set. -/
def State.flag (s : State) (e : EventFlag) : Bool := s.panel.events.getLsbD e.bit

/-- Setting a flag; a flag already set stays set (R200). -/
def raise (e : EventFlag) (s : State) : State :=
  { s with panel := { s.panel with events := s.panel.events ||| e.word } }

/-- Setting a flag when a condition holds. -/
def raiseIf (b : Bool) (e : EventFlag) (s : State) : State := if b then raise e s else s

/-- NOTICE is active while a flag is set together with its mask bit (R201). -/
def State.notice (s : State) : Bool := (s.panel.events &&& s.panel.mask) != 0#20

/-- ACK_EVENTS clears the named flags (R200). -/
def clearFlags (named : BitVec 20) (s : State) : State :=
  { s with panel := { s.panel with events := s.panel.events &&& ~~~named } }

/-- A link counter stays at 65535 once it gets there (R32). -/
def bump (n : Nat) : Nat := min Config.counterMax (n + 1)

/-- Counting RX_GOOD (R31). -/
def countRxGood (s : State) : State :=
  { s with line := { s.line with counters := { s.line.counters with rxGood := bump s.line.counters.rxGood } } }

/-- Counting RX_BAD (R30). -/
def countRxBad (s : State) : State :=
  { s with line := { s.line with counters := { s.line.counters with rxBad := bump s.line.counters.rxBad } } }

/-- Counting TX_DONE (R25). -/
def countTxDone (s : State) : State :=
  { s with line := { s.line with counters := { s.line.counters with txDone := bump s.line.counters.txDone } } }

/-- Counting TX_RETRY (R26). -/
def countTxRetry (s : State) : State :=
  { s with line := { s.line with counters := { s.line.counters with txRetry := bump s.line.counters.txRetry } } }

/-- Counting TX_DROP, which sets LINK_DROP as well (R22, R27). -/
def countTxDrop (s : State) : State :=
  raise .linkDrop
    { s with line := { s.line with counters := { s.line.counters with txDrop := bump s.line.counters.txDrop } } }

/-- Counting LAPSES (R37). -/
def countLapse (s : State) : State :=
  { s with line := { s.line with counters := { s.line.counters with lapses := bump s.line.counters.lapses } } }

end Sys2Proof.Machine
end

