-- ==== Sys2Proof/Machine/Ops.lean ====
section
/-! DEFINITION. Named operations over the state: changing one unit, timers, and the store array. A block has no
exception entry; raising an event flag (`raise`, Flags.lean) is what stands in its place. -/

namespace Sys2Proof.Machine

/-! ### One unit at a time -/

def State.mapLine (f : LineUnit → LineUnit) (s : State) : State := { s with line := f s.line }
def State.mapPeer (f : PeerUnit → PeerUnit) (s : State) : State := { s with peer := f s.peer }
def State.mapTicket (f : TicketUnit → TicketUnit) (s : State) : State := { s with ticket := f s.ticket }
def State.mapSched (f : SchedUnit → SchedUnit) (s : State) : State := { s with sched := f s.sched }
def State.mapDoor (f : List DoorPair → List DoorPair) (s : State) : State := { s with door := f s.door }
def State.mapPress (f : PressureUnit → PressureUnit) (s : State) : State := { s with press := f s.press }
def State.mapCar (f : CarUnit → CarUnit) (s : State) : State := { s with car := f s.car }
def State.mapStore (f : StoreUnit → StoreUnit) (s : State) : State := { s with store := f s.store }
def State.mapPanel (f : PanelUnit → PanelUnit) (s : State) : State := { s with panel := f s.panel }

/-! ### Timers -/

/-- A timer started from a number of seconds. -/
def startSeconds (n : Nat) : Timer := some (1000 * n)

/-- One millisecond off a running timer; its expiry is a command of its own (log 1, log 2). -/
def countDown (t : Timer) : Timer := t.map (· - 1)

/-- A running limit counts down; a suspended one keeps its time left (R100, R108). -/
def Limit.countDown : Limit → Limit
  | .stopped => .stopped
  | .running left => .running (left - 1)
  | .suspended left => .suspended left

/-- Setting the stop flag suspends a running limit (R108). -/
def Limit.suspend : Limit → Limit
  | .running left => .suspended left
  | l => l

/-- Clearing the stop flag lets a suspended limit run on (R108). -/
def Limit.continueOn : Limit → Limit
  | .suspended left => .running left
  | l => l

/-- Whether a limit is running. -/
def Limit.isRunning : Limit → Bool
  | .running _ => true
  | _ => false

/-- A claimant's limit started while the stop flag is set starts suspended (R108). -/
def startLimit (s : State) (seconds : Nat) : Limit :=
  if s.ticket.stopFlag then .suspended (1000 * seconds) else .running (1000 * seconds)

/-! ### The store array (R185) -/

/-- The byte at an address; an unlisted address reads 0 (R4, R185). -/
def Memory.read : Memory → Nat → Byte
  | [], _ => 0
  | (k, b) :: rest, a => if k = a then b else Memory.read rest a

/-- The list with the byte `v` at address `a`, in canonical form. -/
def Memory.write : Memory → Nat → Byte → Memory
  | [], a, v => if v = 0 then [] else [(a, v)]
  | (k, b) :: rest, a, v =>
    if a < k then (if v = 0 then (k, b) :: rest else (a, v) :: (k, b) :: rest)
    else if a = k then (if v = 0 then rest else (a, v) :: rest)
    else (k, b) :: Memory.write rest a v

/-- Addresses strictly rising from `lo` on, all below 512, no byte 0. -/
def Memory.wfFrom : Nat → Memory → Bool
  | _, [] => true
  | lo, (k, b) :: rest => decide (lo ≤ k) && decide (k < 512) && (b != 0) && Memory.wfFrom (k + 1) rest

/-- The canonical form of the store array. -/
def Memory.wf (m : Memory) : Bool := Memory.wfFrom 0 m

/-- Writing bytes from an address on; nothing is written at or above 512, where the array ends. -/
def Memory.writeBytes : Memory → Nat → List Byte → Memory
  | m, _, [] => m
  | m, a, v :: rest => Memory.writeBytes (if a < 512 then Memory.write m a v else m) (a + 1) rest

/-- Reading `n` bytes from an address on. -/
def Memory.readBytes (m : Memory) (a n : Nat) : List Byte := (List.range n).map fun i => Memory.read m (a + i)

/-- Writing a page of 16 bytes (R185). -/
def Memory.writePage (m : Memory) (page : Nat) (bytes : List Byte) : Memory :=
  Memory.writeBytes m (16 * page) (bytes.take 16)

/-- The sum of bytes modulo 256 (R4, R185). -/
def byteSum (bytes : List Byte) : Byte := bytes.foldl (· + ·) 0

/-! ### Bytes of numbers, most significant first (R4, R17, R195) -/

/-- The `n` bytes of a number, most significant first. -/
def toBytes : Nat → Nat → List Byte
  | 0, _ => []
  | n + 1, v => BitVec.ofNat 8 (v / 256 ^ n) :: toBytes n v

/-- The number that bytes give, most significant first. -/
def ofBytes (bytes : List Byte) : Nat := bytes.foldl (fun acc b => 256 * acc + b.toNat) 0

/-- A signed value in two's complement of 16 bits (R4, R195). -/
def signed16 (v : Nat) : Int := if v < 32768 then v else (v : Int) - 65536

/-- A signed byte in two's complement (R4). -/
def signed8 (v : Nat) : Int := if v < 128 then v else (v : Int) - 256

/-! ### Requests to the store unit -/

/-- A unit asks for a record to be written; the requests of one event are queued together at its end (R188). -/
def want (r : RecordId) (s : State) : State :=
  s.mapStore fun u => { u with wanted := if r ∈ u.wanted then u.wanted else u.wanted ++ [r] }

end Sys2Proof.Machine
end

