-- ==== Sys2Proof/Machine/Operands.lean ====
section
/-! DEFINITION. What the operands of the commands name: roles and units that run, pins and field lines (R1, R2), own
ovens and slots, peers, ticket order, frame classes (R19) and the payload ranges of R20. -/

namespace Sys2Proof

/-- A ticket U is later than a ticket T when (U - T) modulo 65536 lies in 1 to 32767 (00_scope.md, Tickets). -/
def ticketLater (u t : Ticket) : Bool := decide (1 ≤ (u - t).toNat) && decide ((u - t).toNat ≤ 32767)

/-- The phases in their order (R86). -/
def Phase.rank : Phase → Nat
  | .claimed => 0
  | .assented => 1
  | .opened => 2
  | .gone => 3
  | .stuck => 4

/-- CLAIMED, ASSENTED or OPENED (R95, R96, R112). -/
def Phase.beforeGone (p : Phase) : Bool := decide (p.rank < 3)

/-- The class of a frame (R19). -/
def Frame.cls : Frame → Nat
  | .stop _ => 0
  | .resume => 0
  | .abandon _ _ _ => 0
  | .stall _ _ => 0
  | .claim _ _ => 1
  | .assent _ _ _ => 1
  | .decline _ _ _ _ => 1
  | .opening _ _ => 1
  | .spotted _ _ _ => 1
  | .ready _ _ _ => 1
  | .go _ _ => 1
  | .finished _ _ => 1
  | .aspirate _ => 2
  | .aspirateEnd _ => 2
  | .oven _ _ _ => 2
  | .standing _ => 3

/-- Ticket and oven of a push protocol frame. -/
def Frame.names : Frame → Option (Ticket × Nat)
  | .abandon t o _ => some (t, o)
  | .stall t o => some (t, o)
  | .claim t o => some (t, o)
  | .assent t o _ => some (t, o)
  | .decline t o _ _ => some (t, o)
  | .opening t o => some (t, o)
  | .spotted t o _ => some (t, o)
  | .ready t o _ => some (t, o)
  | .go t o => some (t, o)
  | .finished t o => some (t, o)
  | .stop _ | .resume | .aspirate _ | .aspirateEnd _ | .oven _ _ _ | .standing _ => none

/-- Oven fields hold 1 to 120 (R20). -/
def ovenInRange (n : Nat) : Bool := decide (1 ≤ n) && decide (n ≤ 120)

/-- A roster item's ranges (R20). -/
def RosterItem.valid (r : RosterItem) : Bool := ovenInRange r.oven && decide (r.minutes ≤ 1023)

/-- The common part's ranges; the open phase, ticket and oven agree (R20). -/
def StandingCommon.valid (c : StandingCommon) : Bool :=
  decide (c.lineMinute ≤ 16777215) && decide (c.cursor ≤ 1144) && decide (1 ≤ c.period) && decide (c.period ≤ 10)
    && (match c.openPhase with
        | none => (c.openTicket == 0) && (c.openOven == 0)
        | some _ => ovenInRange c.openOven)

/-- The other part's ranges: 1 to 8 entries; a car's cursor is 0, its quench phase stands for kind QUENCH only
(R20). -/
def Standing.valid (b : Standing) : Bool :=
  b.common.valid &&
    (match b.part with
     | .ofSection items => decide (1 ≤ items.length) && decide (items.length ≤ 8) && items.all RosterItem.valid
     | .ofCar kind position _ quench _ =>
       (b.common.cursor == 0) && (match position with | none => true | some p => decide (p ≤ 255))
         && (quench.isSome == decide (kind = .quench)))

/-- The payload ranges of R20. Coded fields hold only codes, so what is left to check is the numbers. -/
def Frame.valid : Frame → Bool
  | .stop _ | .resume => true
  | .abandon _ o _ => ovenInRange o
  | .stall _ o => ovenInRange o
  | .claim _ o => ovenInRange o
  | .assent _ o _ => ovenInRange o
  | .decline _ o _ _ => ovenInRange o
  | .opening _ o => ovenInRange o
  | .spotted _ o _ => ovenInRange o
  | .ready _ o _ => ovenInRange o
  | .go _ o => ovenInRange o
  | .finished _ o => ovenInRange o
  | .aspirate o => ovenInRange o
  | .aspirateEnd o => ovenInRange o
  | .oven o _ m => ovenInRange o && decide (m ≤ 1023)
  | .standing b => b.valid

/-- The role a STANDING reports (R20). -/
def StandingPart.role : StandingPart → Role
  | .ofSection _ => .ovens
  | .ofCar _ _ _ _ _ => .car

/-- The car kind a STANDING reports (R20). -/
def StandingPart.kind : StandingPart → Option CarKind
  | .ofSection _ => none
  | .ofCar k _ _ _ _ => some k

/-- The ovens a STANDING's roster list names, in order (R36). -/
def StandingPart.ovenMap : StandingPart → List Nat
  | .ofSection items => items.map (·.oven)
  | .ofCar _ _ _ _ _ => []

/-- The field input of a rejected line: I[6s-6], I[6s-5] latches, I[6s-2], I[6s-1] leak detectors, I0 MARKER, I1
HOME; STOPN is a pin of its own. -/
def RejectLine.input : RejectLine → Option Nat
  | .latch slot .pusherSide => some (6 * slot - 6)
  | .latch slot .cokeSide => some (6 * slot - 5)
  | .leak slot .pusherSide => some (6 * slot - 2)
  | .leak slot .cokeSide => some (6 * slot - 1)
  | .marker => some 0
  | .home => some 1
  | .stopn => none

end Sys2Proof

namespace Sys2Proof.Machine

/-! ### Roles and running units -/

/-- The units run in JOINING, ACTIVE, WITHDRAWN and HALTED(DUPLICATE); in a start halt and in reset they do not
(R7, R12). -/
def State.running (s : State) : Bool :=
  match s.line.state with
  | .joining | .active | .withdrawn | .haltedDuplicate => true
  | .haltedStrap | .haltedConfig | .inReset => false

/-- JOINING, ACTIVE or WITHDRAWN: valid frames are handed to the units (section 2.1). -/
def State.onLine (s : State) : Bool :=
  match s.line.state with
  | .joining | .active | .withdrawn => true
  | .haltedDuplicate | .haltedStrap | .haltedConfig | .inReset => false

/-- HALTED(STRAP) or HALTED(CONFIG) (section 1.7). -/
def State.startHalt (s : State) : Bool :=
  match s.line.state with
  | .haltedStrap | .haltedConfig => true
  | .joining | .active | .withdrawn | .haltedDuplicate | .inReset => false

/-- The section units run. -/
def State.sectionRuns (s : State) : Bool := s.running && decide (s.resetRecord.role = .ovens)

/-- The car unit runs. -/
def State.carRuns (s : State) : Bool := s.running && decide (s.resetRecord.role = .car)

/-- The station's own number (R3). -/
def State.own (s : State) : Nat := s.resetRecord.station

/-! ### Pins and field lines (R1, R2) -/

/-- The field input of a seal switch: I[6s-4], I[6s-3] (R1). -/
def sealInput (slot : Nat) : Side → Nat
  | .pusherSide => 6 * slot - 4
  | .cokeSide => 6 * slot - 3

/-- The level of a field input. -/
def State.input (s : State) (i : Nat) : Bool := s.pins.inputs.getLsbD i

/-- The inputs with one level changed. -/
def setBit48 (w : BitVec 48) (i : Nat) (b : Bool) : BitVec 48 :=
  if b then w ||| (1#48 <<< i) else w &&& ~~~(1#48 <<< i)

/-- A field input changes level. -/
def setInput (i : Nat) (b : Bool) (s : State) : State :=
  { s with pins := { s.pins with inputs := setBit48 s.pins.inputs i b } }

/-- The level at a rejected line's pin. -/
def State.lineLevel (s : State) (l : RejectLine) : Bool :=
  match l.input with
  | some i => s.input i
  | none => s.pins.stopnAsserted

/-- A rejected line's pin changes level. -/
def setLine (l : RejectLine) (b : Bool) (s : State) : State :=
  match l.input with
  | some i => setInput i b s
  | none => { s with pins := { s.pins with stopnAsserted := b } }

/-- The level of a seal switch. -/
def State.sealLevel (s : State) (slot : Nat) (side : Side) : Bool := s.input (sealInput slot side)

/-! ### Own ovens -/

/-- The slot index (slot less 1) of an own oven. -/
def State.slotOf (s : State) (oven : Nat) : Option Nat := s.sched.ovens.findIdx? fun o => o.number == oven

/-- Whether the oven is one of the station's own. -/
def State.ownsOven (s : State) (oven : Nat) : Bool := (s.slotOf oven).isSome

/-- The index of a slot number 1 to the slot count. -/
def State.slotIndex (s : State) (slot : Nat) : Option Nat :=
  if 1 ≤ slot ∧ slot ≤ s.sched.ovens.length then some (slot - 1) else none

/-- A door of a pair. -/
def DoorPair.get (d : DoorPair) : Side → Door
  | .pusherSide => d.p
  | .cokeSide => d.c

/-- A pair with one door changed. -/
def DoorPair.put (d : DoorPair) : Side → Door → DoorPair
  | .pusherSide, x => { d with p := x }
  | .cokeSide, x => { d with c := x }

/-- The isolate and deflate orders stand for a slot: the record names its oven in a phase after CLAIMED (R101). -/
def State.orderStands (s : State) (k : Nat) : Bool :=
  match s.ticket.record, s.sched.ovens[k]? with
  | some r, some o => (r.oven == o.number) && (r.phase != .claimed)
  | _, _ => false

/-! ### Peers -/

/-- The peer table entry of a station number; none outside 1 to 31. -/
def State.peerAt (s : State) (n : Nat) : Peer :=
  if n = 0 then Peer.absent else s.peer.table.getD (n - 1) Peer.absent

/-- Whether a station number is IN_STANDING (R39). -/
def State.inStanding (s : State) (n : Nat) : Bool := (s.peerAt n).standing == .inStanding

/-- How many peers of a car kind are IN_STANDING (R38, R81). -/
def State.kindCount (s : State) (k : CarKind) : Nat :=
  (s.peer.table.filter fun p => (p.standing == .inStanding) && (p.kind == some k)).length

/-- The role of a frame's sender: the station's own, or its peer entry's (R87). -/
def State.senderRole (s : State) (src : Nat) : Option Role :=
  if src = s.own then some s.resetRecord.role else (s.peerAt src).role

/-- The kind of a frame's sender (R87). -/
def State.senderKind (s : State) (src : Nat) : Option CarKind :=
  if src = s.own then (if s.resetRecord.role = .car then some s.cfg.carKind else none) else (s.peerAt src).kind

/-- The sender is a section (R87). -/
def State.fromSection (s : State) (src : Nat) : Bool := s.senderRole src == some .ovens

/-- The sender is a car of a kind (R87). -/
def State.fromCar (s : State) (src : Nat) (k : CarKind) : Bool :=
  (s.senderRole src == some .car) && (s.senderKind src == some k)

/-! ### Kind sets and report sets -/

/-- Whether a kind is in a set. -/
def KindSet.has (x : KindSet) : CarKind → Bool
  | .pusher => x.pusher
  | .guide => x.guide
  | .quench => x.quench

/-- A kind set with one kind's membership given. -/
def KindSet.put (x : KindSet) (k : CarKind) (b : Bool) : KindSet :=
  match k with
  | .pusher => { x with pusher := b }
  | .guide => { x with guide := b }
  | .quench => { x with quench := b }

/-- All three kinds. -/
def KindSet.full (x : KindSet) : Bool := x.pusher && x.guide && x.quench

/-- No kind. -/
def KindSet.none : KindSet := ⟨false, false, false⟩

/-- No station has been marked. -/
def ServedMarks.none : ServedMarks := ⟨[], [], []⟩

/-- The stations marked for a kind. -/
def ServedMarks.of (x : ServedMarks) : CarKind → List Nat
  | .pusher => x.pusher
  | .guide => x.guide
  | .quench => x.quench

/-- The marks with one kind's stations given. -/
def ServedMarks.put (x : ServedMarks) (k : CarKind) (stations : List Nat) : ServedMarks :=
  match k with
  | .pusher => { x with pusher := stations }
  | .guide => { x with guide := stations }
  | .quench => { x with quench := stations }

/-- A station is marked for its kind. -/
def ServedMarks.mark (x : ServedMarks) (k : CarKind) (station : Nat) : ServedMarks :=
  if station ∈ x.of k then x else x.put k (station :: x.of k)

/-- No report. -/
def ReportSet.none : ReportSet := ⟨false, false, false, false, false⟩

/-- All five reports (R109). -/
def ReportSet.full (x : ReportSet) : Bool :=
  x.pusherSpotted && x.pusherReady && x.guideSpotted && x.guideReady && x.quenchSpotted

/-- The report that SPOTTED adds (R91). -/
def ReportSet.addSpotted (x : ReportSet) : CarKind → ReportSet
  | .pusher => { x with pusherSpotted := true }
  | .guide => { x with guideSpotted := true }
  | .quench => { x with quenchSpotted := true }

/-- The report that READY adds; a quench car has none (R91). -/
def ReportSet.addReady (x : ReportSet) : CarKind → ReportSet
  | .pusher => { x with pusherReady := true }
  | .guide => { x with guideReady := true }
  | .quench => x

end Sys2Proof.Machine
end

