-- ==== Sys2Proof/Machine/Queues.lean ====
section
/-! DEFINITION. The transmit queues: offering a frame (R22), what a drop does at the unit that offered it (R83, R86,
R104, R130, R202), withdrawing frames (R24), and offering dropped frames again (R25). -/

namespace Sys2Proof.Machine

/-- The queue of a class. -/
def LineUnit.queue (u : LineUnit) : Nat → List Queued
  | 0 => u.q0
  | 1 => u.q1
  | 2 => u.q2
  | _ => u.q3

/-- The line interface with the queue of a class given. -/
def LineUnit.setQueue (u : LineUnit) : Nat → List Queued → LineUnit
  | 0, q => { u with q0 := q }
  | 1, q => { u with q1 := q }
  | 2, q => { u with q2 := q }
  | _, q => { u with q3 := q }

/-- The capacity of the queue of a class (R22). -/
def classCapacity : Nat → Nat
  | 0 => 4
  | 1 => 8
  | 2 => 8
  | _ => 1

/-- A frame newly queued. -/
def Queued.fresh (f : Frame) : Queued := ⟨f, 0, false⟩

/-- An outstanding claim is settled: it goes, with its oven's claim-pending flag, and the backoff starts as R83
says for the outcome. -/
def settleClaim (withBackoff : Bool) (s : State) : State :=
  match s.ticket.claim with
  | none => s
  | some c =>
    (s.mapTicket fun t =>
        { t with claim := none, backoff := if withBackoff then startSeconds s.cfg.claimBackoff else t.backoff }).mapSched
      fun u => { u with ovens := u.ovens.map fun o => if o.number = c.oven then { o with pending := false } else o }

/-- OPEN goes back to not offered in the claimant context (R104). -/
def openNotOffered (s : State) : State :=
  s.mapTicket fun t => { t with context := t.context.map fun c => { c with openOffered := false } }

/-- GO goes back to not offered in the claimant context (R110). -/
def goNotOffered (s : State) : State :=
  s.mapTicket fun t => { t with context := t.context.map fun c => { c with goOffered := false } }

/-- A dropped frame waits to be offered again; the pin STOP is a mark and waits once (R202). -/
def keepDropped (f : Frame) (s : State) : State :=
  s.mapLine fun u =>
    { u with dropped := if f = .stop .stopPin ∧ f ∈ u.dropped then u.dropped else u.dropped ++ [f] }

/-- The claimant's ABANDON is kept only while its record stands before GONE with its mark set (R86). -/
def abandonStands (t : Ticket) (o : Nat) (s : State) : Bool :=
  match s.ticket.record with
  | some r => (r.ticket == t) && (r.oven == o) && r.phase.beforeGone && r.abandonOffered
  | none => false

/-- The line interface reports a drop to the unit that offered the frame: a CLAIM is given up (R83), an OPEN or GO is
not offered (R104, R110), a claimant's ABANDON (R86), a car's frames (R130) and the pin STOP (R202) wait to be
offered again. A panel STOP, RESUME, ASPIRATE, ASPIRATE_END and OVEN are not reported. -/
def onDrop (f : Frame) (s : State) : State :=
  match f with
  | .claim t o => if s.ticket.claim = some ⟨t, o⟩ then settleClaim true s else s
  | .opening _ _ => openNotOffered s
  | .go _ _ => goNotOffered s
  | .abandon t o _ =>
    if s.resetRecord.role = .ovens then (if abandonStands t o s then keepDropped f s else s) else keepDropped f s
  | .assent _ _ _ | .decline _ _ _ _ | .spotted _ _ _ | .ready _ _ _ | .stall _ _ | .finished _ _ => keepDropped f s
  | .stop .stopPin => keepDropped f s
  | .stop .panel | .resume | .aspirate _ | .aspirateEnd _ | .oven _ _ _ | .standing _ => s

/-- A STANDING takes the place of any pending one; an attempt on the replaced one goes on with its own copy (R22). -/
def replaceStanding (f : Frame) (u : LineUnit) : LineUnit :=
  { u with
    q3 := [Queued.fresh f]
    attempt := u.attempt.map fun a => if a.frame.cls = 3 then { a with replaced := true } else a }

/-- A unit offers a frame (R22): it joins the tail of its class in JOINING, ACTIVE and WITHDRAWN, a full queue of
class 0 to 2 drops it, a STANDING replaces the pending one; in the other line states it is discarded (section 2.1). -/
def offer (f : Frame) (s : State) : State :=
  if s.onLine then
    if f.cls = 3 then
      if s.line.state = .withdrawn then s else s.mapLine (replaceStanding f)
    else if (s.line.queue f.cls).length < classCapacity f.cls then
      s.mapLine fun u => u.setQueue f.cls (u.queue f.cls ++ [Queued.fresh f])
    else onDrop f (countTxDrop s)
  else s

/-- Offering a frame when there is one. -/
def offerOpt (f : Option Frame) (s : State) : State :=
  match f with
  | some f => offer f s
  | none => s

/-- Whether the head of a class is in transmission (R23). -/
def LineUnit.inTransmission (u : LineUnit) (c : Nat) : Bool :=
  match u.attempt with
  | some a => (a.frame.cls == c) && !a.replaced
  | none => false

/-- Withdrawal within one class (R24): a queued frame that matches is removed, one in transmission is marked. -/
def withdrawQueue (p : Frame → Bool) (inTransmission : Bool) : List Queued → List Queued
  | [] => []
  | q :: rest =>
    if inTransmission then
      (if p q.frame then { q with marked := true } else q) :: rest.filter fun x => !p x.frame
    else (q :: rest).filter fun x => !p x.frame

/-- Withdrawal of every frame of class 0 or 1 that matches (R24). -/
def withdrawFrames (p : Frame → Bool) (s : State) : State :=
  s.mapLine fun u =>
    { u with
      q0 := withdrawQueue p (u.inTransmission 0) u.q0
      q1 := withdrawQueue p (u.inTransmission 1) u.q1 }

/-- Whether a frame is queued. -/
def LineUnit.holds (u : LineUnit) (f : Frame) : Bool := (u.queue f.cls).any fun q => q.frame == f

/-- Withdrawal of one frame, and what follows if it was removed at once (R24). -/
def withdrawFrame (f : Frame) (removed : State → State) (s : State) : State :=
  if s.line.holds f then
    let s' := withdrawFrames (fun x => x == f) s
    if s'.line.holds f then s' else removed s'
  else s

/-- The outstanding claim's queued CLAIM is withdrawn; if removed the claim settles as withdrawn (R84). -/
def withdrawClaim (s : State) : State :=
  match s.ticket.claim with
  | none => s
  | some c => withdrawFrame (.claim c.ticket c.oven) (settleClaim true) s

/-- The queued OPEN and GO of a record are withdrawn (R104, R108, R112). -/
def withdrawOpenGo (r : Record) (s : State) : State :=
  withdrawFrame (.go r.ticket r.oven) goNotOffered
    (withdrawFrame (.opening r.ticket r.oven) openNotOffered s)

/-- What follows when a marked frame is removed at the end of a failed attempt (R24): a CLAIM settles as withdrawn
(R84), an OPEN or GO is not offered (R104, R110). -/
def onMarkedRemoved (f : Frame) (s : State) : State :=
  match f with
  | .claim t o => if s.ticket.claim = some ⟨t, o⟩ then settleClaim true s else s
  | .opening _ _ => openNotOffered s
  | .go _ _ => goNotOffered s
  | .stop _ | .resume | .abandon _ _ _ | .stall _ _ | .assent _ _ _ | .decline _ _ _ _ | .spotted _ _ _
  | .ready _ _ _ | .finished _ _ | .aspirate _ | .aspirateEnd _ | .oven _ _ _ | .standing _ => s

/-- The head frame of a class leaves its queue. -/
def removeHead (c : Nat) (s : State) : State := s.mapLine fun u => u.setQueue c (u.queue c).tail

/-- Whether a dropped frame is offered again at a completion of the station's own: the pin STOP while STOPN is
asserted (R202), a claimant's ABANDON while its record stands before GONE (R86), a car's frame while the record it
names is present, SPOTTED of a quench car only in phase EMPTY (R130, R141). -/
def reofferStands (f : Frame) (s : State) : Bool :=
  match f with
  | .stop _ => s.panel.stopn.accepted
  | _ =>
    match f.names, s.ticket.record with
    | some (t, o), some r =>
      (r.ticket == t) && (r.oven == o) &&
        (if s.resetRecord.role = .ovens then r.phase.beforeGone
         else match f with
           | .spotted _ _ .quench => s.car.quench == .empty
           | _ => true)
    | _, _ => false

/-- The dropped frames are offered again in the order of their drops, or discarded (R22, R86, R130, R202). -/
def reofferDropped (s : State) : State :=
  s.line.dropped.foldl (fun s f => if reofferStands f s then offer f s else s)
    (s.mapLine fun u => { u with dropped := [] })

/-- Dropped frames that name a record which closes, or at a section leaves the phases before GONE, wait no longer
(R86, R130; log 19). -/
def forgetDropped (t : Ticket) (o : Nat) (s : State) : State :=
  s.mapLine fun u => { u with dropped := u.dropped.filter fun f => f.names != some (t, o) }

end Sys2Proof.Machine
end

