-- ==== Sys2Proof/Machine/Doors.lean ====
section
/-! DEFINITION. The door unit (chapter 9): the seven door states, latching, inflation, leak windows, reseating, and
the deflate order. -/

namespace Sys2Proof.Machine

/-- The seal valve is on while INFLATING, SEALED or LEAKING (R151). -/
def Door.valve (d : Door) : Bool :=
  match d.state with
  | .inflating | .sealed | .leaking => true
  | .off | .reseating | .deflated | .fault => false

/-- The door in a state in which no timer runs and the counts of the window are 0 (R151, R156). -/
def Door.stopped (st : DoorState) (d : Door) : Door :=
  { d with state := st, leakCount := 0, clean := 0, window := none, inflate := none, deflate := none }

/-- Entry into SEALED from INFLATING: the leak window starts (R155). -/
def Door.enterSealed (c : Cfg) (d : Door) : Door :=
  { Door.stopped .sealed d with window := startSeconds c.leakWindow }

/-- Entry into INFLATING, at which the seal switch is judged (R154, R155). -/
def Door.enterInflating (c : Cfg) (sealOn : Bool) (d : Door) : Door :=
  if sealOn then Door.enterSealed c d
  else { Door.stopped .inflating d with inflate := startSeconds c.inflateLimit }

/-- Entry into OFF: every count is 0 (R153). -/
def Door.enterOff (d : Door) : Door := { Door.stopped .off d with attempts := 0 }

/-- Entry into DEFLATED: every count is 0 (R163). -/
def Door.enterDeflated (d : Door) : Door := { Door.stopped .deflated d with attempts := 0 }

/-- Entry into FAULT: the reseat attempts keep their value (R162). -/
def Door.enterFault (d : Door) : Door := Door.stopped .fault d

/-- Entry into RESEATING (R161). -/
def Door.enterReseating (c : Cfg) (d : Door) : Door :=
  { Door.stopped .reseating d with deflate := startSeconds c.deflateTime }

/-- RESEATING while attempts are below the limit, FAULT otherwise (R159, R160). -/
def Door.reseatOrFault (c : Cfg) (d : Door) : Door :=
  if d.attempts < c.reseatLimit then Door.enterReseating c d else Door.enterFault d

/-- The latch opens: OFF from any state; in OFF nothing changes (R153). -/
def Door.latchOpens (d : Door) : Door := if d.state = .off then d else Door.enterOff d

/-- The latch closes in OFF: DEFLATED under a deflate order, INFLATING otherwise (R154). -/
def Door.latchCloses (c : Cfg) (order sealOn : Bool) (d : Door) : Door :=
  if d.state = .off then (if order then Door.enterDeflated d else Door.enterInflating c sealOn d) else d

/-- A leak pulse counts in SEALED and LEAKING, to no more than 1023 (R156). -/
def Door.leakPulse (d : Door) : Door :=
  match d.state with
  | .sealed | .leaking => { d with leakCount := min Config.leakMax (d.leakCount + 1) }
  | .off | .inflating | .reseating | .deflated | .fault => d

/-- The seal switch changes (R155, R160). -/
def Door.sealChange (c : Cfg) (sealOn : Bool) (d : Door) : Door :=
  match d.state with
  | .inflating => if sealOn then Door.enterSealed c d else d
  | .sealed | .leaking => if sealOn then d else Door.reseatOrFault c d
  | .off | .reseating | .deflated | .fault => d

/-- The inflate limit expires in INFLATING (R155). -/
def Door.inflateExpires (d : Door) : Door :=
  if d.state = .inflating ∧ d.inflate.isSome then Door.enterFault d else d

/-- The leak window starts again from its full value with the count at 0 (R157 steps 2 and 3). -/
def Door.nextWindow (c : Cfg) (d : Door) : Door :=
  { d with leakCount := 0, window := startSeconds c.leakWindow }

/-- The leak window ends: leaky when the count is greater than the threshold (R157, R158, R159). -/
def Door.windowEnds (c : Cfg) (d : Door) : Door :=
  if d.window.isSome then
    match d.state with
    | .sealed =>
      if d.leakCount > c.leakThreshold then Door.nextWindow c { d with state := .leaking, clean := 0 }
      else Door.nextWindow c d
    | .leaking =>
      if d.leakCount > c.leakThreshold then Door.reseatOrFault c d
      else if d.clean + 1 = c.cleanCount then Door.nextWindow c { d with state := .sealed, clean := 0, attempts := 0 }
      else Door.nextWindow c { d with clean := d.clean + 1 }
    | .off | .inflating | .reseating | .deflated | .fault => d
  else d

/-- The deflate timer expires in RESEATING: the attempt counts and the door becomes INFLATING (R161). -/
def Door.deflateExpires (c : Cfg) (sealOn : Bool) (d : Door) : Door :=
  if d.state = .reseating ∧ d.deflate.isSome then
    Door.enterInflating c sealOn { d with attempts := d.attempts + 1 }
  else d

/-- The deflate order is given: DEFLATED if the latch is closed, OFF stays OFF (R163). -/
def Door.orderGiven (d : Door) : Door := if d.state = .off then d else Door.enterDeflated d

/-- The deflate order ends: a DEFLATED door becomes INFLATING (R164). -/
def Door.orderEnds (c : Cfg) (sealOn : Bool) (d : Door) : Door :=
  if d.state = .deflated then Door.enterInflating c sealOn d else d

/-- RESEAT of a door in FAULT (R165). -/
def Door.reseat (c : Cfg) (sealOn : Bool) (d : Door) : Door :=
  if d.state = .fault then Door.enterInflating c sealOn { d with attempts := 0 } else d

/-- The door at the end of the start sequence: INFLATING if latched, OFF if not (R151). -/
def Door.atStart (c : Cfg) (latched sealOn leakOn : Bool) : Door :=
  let d : Door :=
    { state := .off, leakCount := 0, clean := 0, attempts := 0, window := none, inflate := none, deflate := none,
      latch := ⟨latched, none⟩, leak := ⟨leakOn, none⟩ }
  if latched then Door.enterInflating c sealOn d else d

/-- A door of slot index `k` is changed; its entry into LEAKING from SEALED sets DOOR_LEAK (R158), its entry into
FAULT sets DOOR_FAULT (R162). -/
def changeDoor (k : Nat) (side : Side) (f : Door → Door) (s : State) : State :=
  match s.door[k]? with
  | none => s
  | some pair =>
    let d := pair.get side
    let d' := f d
    raiseIf (decide (d.state = .sealed) && decide (d'.state = .leaking)) .doorLeak
      (raiseIf (decide (d.state ≠ .fault) && decide (d'.state = .fault)) .doorFault
        (s.mapDoor fun l => l.set k (pair.put side d')))

/-- Both doors of slot index `k` are changed, each with its own seal switch level. -/
def changeDoors (k : Nat) (f : Bool → Door → Door) (s : State) : State :=
  changeDoor k .cokeSide (f (s.sealLevel (k + 1) .cokeSide))
    (changeDoor k .pusherSide (f (s.sealLevel (k + 1) .pusherSide)) s)

/-- The deflate order for slot index `k` is given (R101, R163). -/
def giveDeflate (k : Nat) (s : State) : State := changeDoors k (fun _ d => d.orderGiven) s

/-- The deflate order for slot index `k` ends (R164). -/
def endDeflate (k : Nat) (s : State) : State := changeDoors k (fun sealOn d => d.orderEnds s.cfg sealOn) s

/-- The state of a door, OFF where there is none. -/
def State.doorState (s : State) (k : Nat) (side : Side) : DoorState :=
  match s.door[k]? with
  | some pair => (pair.get side).state
  | none => .off

/-- Leak relief: either door LEAKING or RESEATING (R166). -/
def State.leakRelief (s : State) (k : Nat) : Bool :=
  let relief (x : DoorState) : Bool := (x == .leaking) || (x == .reseating)
  relief (s.doorState k .pusherSide) || relief (s.doorState k .cokeSide)

/-- Charge permit: both doors SEALED (R166). -/
def State.chargePermit (s : State) (k : Nat) : Bool :=
  (s.doorState k .pusherSide == .sealed) && (s.doorState k .cokeSide == .sealed)

/-- Seals down: each door DEFLATED or OFF (R102). -/
def State.sealsDown (s : State) (k : Nat) : Bool :=
  let down (x : DoorState) : Bool := (x == .deflated) || (x == .off)
  down (s.doorState k .pusherSide) && down (s.doorState k .cokeSide)

/-- Doors off: both doors OFF (R102). -/
def State.doorsOff (s : State) (k : Nat) : Bool :=
  (s.doorState k .pusherSide == .off) && (s.doorState k .cokeSide == .off)

end Sys2Proof.Machine
end

