-- ==== Sys2Proof/Machine/Pressure.lean ====
section
/-! DEFINITION. The pressure unit (chapter 10): channels, the main record, damper phases and stepping, the
positioner, and the aspiration slot list. -/

namespace Sys2Proof.Machine

/-! ### Channels and the main record -/

/-- A raw value of 0 or 1023 is a failed sensor (R168). -/
def rawFailed (raw : Raw) : Bool := (raw == 0) || (raw == 1023)

/-- The reading in Pa of a valid raw value (R168). -/
def rawReading (raw : Raw) (offset : Int) : Int := max (-512) (min 511 ((raw.toNat : Int) - 512 + offset))

/-- The channel after a conversion is posted (R168). While it is in sensor fault the reading field keeps the last valid
reading, marked invalid (log 34). -/
def Channel.post (raw : Raw) (offset : Int) (c : Channel) : Channel :=
  if rawFailed raw then { c with raw := raw, valid := false, fault := true }
  else { raw := raw, reading := rawReading raw offset, valid := true, fault := false }

/-- The stability of the main at a valid reading (R169). -/
def MainRecord.judgeStability (c : Cfg) (reading : Int) (m : MainRecord) : MainRecord :=
  match m.captured with
  | none => { m with captured := some reading, stableTimer := startSeconds c.mainStableTime }
  | some v =>
    if (reading - v).natAbs > c.mainHysteresis.toNat then
      { m with captured := some reading, stableTimer := startSeconds c.mainStableTime, stable := false }
    else m

/-- The LOW flag at a valid reading (R170). -/
def MainRecord.judgeLow (c : Cfg) (reading : Int) (m : MainRecord) : MainRecord :=
  if reading < c.mainLowLimit then { m with low := true }
  else if c.mainLowLimit + c.mainHysteresis ≤ reading then { m with low := false }
  else m

/-- Channel 0 enters sensor fault (R170). -/
def MainRecord.sensorFault : MainRecord := { captured := none, stableTimer := none, stable := false, low := true }

/-- The main record takes a posted reading of channel 0; entry into LOW sets MAIN_LOW (R169, R170). -/
def judgeMain (failed : Bool) (reading : Int) (s : State) : State :=
  let m := s.press.main
  let m' := if failed then MainRecord.sensorFault else (m.judgeStability s.cfg reading).judgeLow s.cfg reading
  raiseIf (!m.low && m'.low) .mainLow (s.mapPress fun u => { u with main := m' })

/-! ### Damper phases -/

/-- The list holds the oven as owned by the station (R172, R178). -/
def State.ownEntry (s : State) (oven : Nat) : Bool :=
  s.press.entries.any fun e => (e.oven == oven) && (e.owner == s.own)

/-- The phase a damper record follows, by the first row that applies (R172). -/
def State.damperPhase (s : State) (k : Nat) : DamperPhase :=
  match s.sched.ovens[k]? with
  | none => .closed
  | some o =>
    if s.orderStands k then .closed
    else
      match o.state with
      | .empty | .outOfService | .pushing => .closed
      | .charging => if s.ownEntry o.number then .aspirate else .early
      | .coking => if o.gross < s.cfg.earlyMinutes then .early else .normal
      | .ripe | .claimed | .unknown => .normal

/-- Entry into a phase from a different phase (R173). -/
def Damper.enter (c : Cfg) (p : DamperPhase) (d : Damper) : Damper :=
  if d.phase = p then d
  else
    match p with
    | .closed => { d with phase := .closed, commanded := 0, settle := none }
    | .aspirate => { d with phase := .aspirate, commanded := 63, settle := none }
    | .early | .normal =>
      match d.phase with
      | .closed | .aspirate =>
        { d with
          phase := p
          commanded := min c.damperCeiling (max c.damperFloor d.commanded)
          settle := startSeconds c.settleTime }
      | .early | .normal => { d with phase := p }

/-- Every damper record takes the phase its inputs give (R172, R173). -/
def refreshDampers (s : State) : State :=
  s.mapPress fun u => { u with dampers := u.dampers.mapIdx fun k d => d.enter s.cfg (s.damperPhase k) }

/-- The damper record of a slot index. -/
def State.damper (s : State) (k : Nat) : Damper := s.press.dampers.getD k Damper.reset

/-- The aspiration valve is on in ASPIRATE (R178). -/
def State.aspirationValve (s : State) (k : Nat) : Bool := (s.damper k).phase == .aspirate

/-- Isolation confirmed: applied position 0 and aspiration valve off (R102, R177). -/
def State.isolated (s : State) (k : Nat) : Bool := ((s.damper k).applied == 0) && !s.aspirationValve k

/-- The setpoint in use: none in CLOSED and ASPIRATE (R174). -/
def State.setpoint (s : State) (k : Nat) : Option Int :=
  let relief : Int := if s.leakRelief k then s.cfg.leakRelief else 0
  match (s.damper k).phase with
  | .closed | .aspirate => none
  | .early => some (s.cfg.earlySetpoint - relief)
  | .normal => some (s.cfg.normalSetpoint - relief)

/-- One step of a damper at a valid reading (R175). -/
def Damper.step (c : Cfg) (setpoint reading : Int) (low : Bool) (d : Damper) : Damper :=
  if d.settle.isSome then d
  else if setpoint + c.deadband < reading then
    if d.commanded < c.damperCeiling ∧ low = false then
      { d with commanded := d.commanded + 1, settle := startSeconds c.settleTime }
    else d
  else if reading < setpoint - c.deadband then
    if c.damperFloor < d.commanded then
      { d with commanded := d.commanded - 1, settle := startSeconds c.settleTime }
    else d
  else d

/-- The reading of slot index `k`'s channel is judged for a step (R175, R176). -/
def stepDamper (k : Nat) (reading : Int) (s : State) : State :=
  match s.setpoint k with
  | none => s
  | some sp =>
    s.mapPress fun u => { u with dampers := u.dampers.modify k (Damper.step s.cfg sp reading u.main.low) }

/-- A conversion of channel `c` is posted and judged (R167, R168). -/
def postConversion (c : Nat) (raw : Raw) (s : State) : State :=
  match s.press.channels[c]? with
  | none => s
  | some ch =>
    let ch' := ch.post raw (s.cfg.channelOffsets.getD c 0)
    let s1 := raiseIf (!ch.fault && ch'.fault) .sensorFault
      (s.mapPress fun u => { u with channels := u.channels.set c ch' })
    if c = 0 then judgeMain ch'.fault ch'.reading s1
    else if ch'.valid then stepDamper (c - 1) ch'.reading s1
    else s1

/-- Every applied position takes its commanded position, and the outputs are driven (R177). -/
def applyPositions (s : State) : State :=
  s.mapPress fun u =>
    { u with
      dampers := u.dampers.map fun d => { d with applied := d.commanded }
      driven := true
      boundary := some Config.positionerPeriodMs }

/-! ### The aspiration slot list -/

/-- No entry names the oven (R180). -/
def State.listed (s : State) (oven : Nat) : Bool := s.press.entries.any fun e => e.oven == oven

/-- The admission of an ASPIRATE (R180); for the station's own the list hold must not run (R181). -/
def State.admits (s : State) (src oven : Nat) : Bool :=
  !s.ticket.stopFlag && decide (s.press.entries.length < s.cfg.aspirationLimit) && !s.listed oven
    && !((src == s.own) && s.press.listHold.isSome)

/-- An admitted entry joins the tail with its full time (R180). -/
def admitEntry (src oven : Nat) (s : State) : State :=
  s.mapPress fun u => { u with entries := u.entries ++ [⟨oven, src, 1000 * s.cfg.aspirationTime⟩] }

/-- The entry for the oven owned by the sender leaves the list (R182). -/
def removeEntry (src oven : Nat) (s : State) : State :=
  s.mapPress fun u => { u with entries := u.entries.filter fun e => !((e.oven == oven) && (e.owner == src)) }

/-- An entry's time has run out (R183): a still-CHARGING own oven sets ASPIRATION_EXPIRED. -/
def expireEntry (oven : Nat) (s : State) : State :=
  match s.press.entries.find? (fun e => e.oven == oven) with
  | none => s
  | some e =>
    let charging :=
      match s.slotOf oven with
      | some k => (s.sched.ovens[k]?.map (·.state)) == some .charging
      | none => false
    raiseIf ((e.owner == s.own) && charging) .aspirationExpired
      (s.mapPress fun u => { u with entries := u.entries.filter fun x => x.oven != oven })

end Sys2Proof.Machine
end

