-- ==== Sys2Proof/Machine/Schedule.lean ====
section
/-! DEFINITION. The schedule unit: oven records and their clock (chapter 4), summaries, the roster (section 3.5), the
push series and the candidate (sections 5.1 and 5.2). -/

namespace Sys2Proof.Machine

/-! ### Oven records -/

/-- The summary of an oven (R60). -/
def Oven.summary (o : Oven) : Summary :=
  match o.state with
  | .claimed | .pushing => .busy
  | .charging | .coking => if o.held || o.suspect then .skip else .coking
  | .ripe => if o.held || o.suspect then .skip else .ripe
  | .empty | .outOfService | .unknown => .skip

/-- Minutes to ripe as reported, capped (R52, R60). -/
def Oven.minutesToRipe (o : Oven) : Nat := min Config.minutesCap o.remaining

/-- A change of an oven record of slot index `k`; a change of its state, held or suspect flag or target asks for its
record to be written (R62). -/
def changeOven (k : Nat) (f : Oven → Oven) (s : State) : State :=
  match s.sched.ovens[k]? with
  | none => s
  | some o =>
    let o' := f o
    let s' := s.mapSched fun u => { u with ovens := u.ovens.set k o' }
    if o.state = o'.state ∧ o.held = o'.held ∧ o.suspect = o'.suspect ∧ o.target = o'.target then s'
    else want (.ovenOf k) s'

/-- Entry into EMPTY (R70, R76, R77). -/
def Oven.toEmpty (o : Oven) : Oven := { o with state := .empty, remaining := 0, gross := 0, suspect := false }

/-- Entry into OUT_OF_SERVICE (R71, R76). -/
def Oven.toOutOfService (o : Oven) : Oven :=
  { o with state := .outOfService, remaining := 0, gross := 0, suspect := false }

/-- Entry into CHARGING (R64). -/
def Oven.toCharging (o : Oven) : Oven :=
  { o with state := .charging, remaining := o.target, gross := 0, suspect := false }

/-- CHARGE_END of a CHARGING oven (R66). -/
def Oven.toCokingFresh (o : Oven) : Oven := { o with state := .coking, remaining := o.target, gross := 0 }

/-- The oven follows its own station's record by the record's phase (R68). -/
def Oven.follow (p : Phase) (o : Oven) : Oven :=
  match p with
  | .claimed | .assented => { o with state := .claimed, remaining := 0 }
  | .opened | .gone | .stuck => { o with state := .pushing, remaining := 0 }

/-- The oven after its record closed without being done: RIPE before GONE, OUT_OF_SERVICE after (R71). -/
def Oven.notDone (p : Phase) (o : Oven) : Oven :=
  if p.beforeGone then { o with state := .ripe, remaining := 0 } else o.toOutOfService

/-- The running counts move by `d` minutes (R57, R58); a COKING oven that reaches 0 is RIPE (R59). -/
def Oven.moveClock (d : Nat) (o : Oven) : Oven :=
  match o.state with
  | .coking =>
    { o with
      state := if o.remaining ≤ d then .ripe else .coking
      remaining := o.remaining - d
      gross := min Config.grossMax (o.gross + d) }
  | .ripe | .claimed | .pushing => { o with gross := min Config.grossMax (o.gross + d) }
  | .empty | .charging | .outOfService | .unknown => o

/-- Whether the periodic store request applies: COKING or RIPE (R62). -/
def Oven.cooks (o : Oven) : Bool := (o.state == .coking) || (o.state == .ripe)

/-- A change that may bring an oven to RIPE for the first time sets the RIPE event when it does (R59). -/
def changeOvenRipening (k : Nat) (f : Oven → Oven) (s : State) : State :=
  match s.sched.ovens[k]? with
  | none => s
  | some o => raiseIf (decide (o.state ≠ .ripe) && decide ((f o).state = .ripe)) .ripe (changeOven k f s)

/-- A change of every oven record, in slot order. -/
def forSlots (f : Nat → State → State) (s : State) : State :=
  (List.range s.sched.ovens.length).foldl (fun s k => f k s) s

/-- The line minute moved from `old` to `new` by an advance or a jump: every own oven moves its clock, and where a
value divisible by 10 was reached or passed a COKING or RIPE oven asks for its record to be written (R57, R58,
R62, R190). -/
def moveClocks (old new : Nat) (s : State) : State :=
  forSlots (fun k s =>
    let s := changeOvenRipening k (Oven.moveClock (new - old)) s
    if old / 10 < new / 10 && (s.sched.ovens[k]?.map Oven.cooks).getD false then want (.ovenOf k) s else s) s

/-! ### Roster -/

/-- The entry of an oven, ABSENT outside 1 to 120. -/
def State.rosterAt (s : State) (oven : Nat) : RosterEntry :=
  if oven = 0 then RosterEntry.absentEntry else s.sched.roster.getD (oven - 1) RosterEntry.absentEntry

/-- An entry of the roster is replaced. -/
def setRoster (oven : Nat) (e : RosterEntry) (s : State) : State :=
  if oven = 0 then s else s.mapSched fun u => { u with roster := u.roster.set (oven - 1) e }

/-- The own ovens' entries hold their summaries and minutes to ripe (R52). -/
def refreshOwnRoster (s : State) : State :=
  s.sched.ovens.foldl
    (fun s o => setRoster o.number ⟨.current, s.own, o.summary, o.minutesToRipe⟩ s) s

/-- One roster entry offered by another station (R53, less the ownership clash). -/
def writeRoster (src oven : Nat) (summary : Summary) (minutes : Nat) (s : State) : State :=
  let e := s.rosterAt oven
  match e.state with
  | .absent | .stale => setRoster oven ⟨.current, src, summary, minutes⟩ s
  | .current =>
    if e.owner = src then setRoster oven ⟨.current, src, summary, minutes⟩ s else raise .conflict s

/-- A roster list of a section peer: its entries in list order, and every entry it owned but no longer names becomes
ABSENT (R53). -/
def takeRosterList (src : Nat) (items : List RosterItem) (s : State) : State :=
  let s := items.foldl (fun s r => writeRoster src r.oven r.summary r.minutes s) s
  s.mapSched fun u =>
    { u with
      roster := u.roster.mapIdx fun i e =>
        if e.state ≠ .absent ∧ e.owner = src ∧ ¬(items.any fun r => r.oven == i + 1) then RosterEntry.absentEntry
        else e }

/-- A departed section's CURRENT entries become STALE (R54). -/
def staleRoster (src : Nat) (s : State) : State :=
  s.mapSched fun u =>
    { u with
      roster := u.roster.map fun e => if e.state = .current ∧ e.owner = src then { e with state := .stale } else e }

/-! ### Series and candidate -/

/-- The residue of a pass (R78). -/
def residue (step shift : Nat) : Nat → Nat
  | 0 => 1
  | j + 1 => (residue step shift j - 1 + shift) % step + 1

/-- The pass of an oven: the one whose residue is the oven's (R78). -/
def passOf (step shift oven : Nat) : Nat :=
  ((List.range step).find? fun j => residue step shift j == (oven - 1) % step + 1).getD 0

/-- The rank of an oven (R79). -/
def rankOf (c : Cfg) (oven : Nat) : Nat := passOf c.step c.shift oven * 128 + oven

/-- An entry the candidate may be taken from (R80). -/
def RosterEntry.eligible (e : RosterEntry) : Bool :=
  (e.state == .current) && ((e.summary == .coking) || (e.summary == .ripe))

/-- The eligible ovens of a roster whose first entry is oven `n`, each with its rank. -/
def eligibleRanks (c : Cfg) : Nat → List RosterEntry → List (Nat × Nat)
  | _, [] => []
  | n, e :: rest =>
    if e.eligible then (rankOf c n, n) :: eligibleRanks c (n + 1) rest else eligibleRanks c (n + 1) rest

/-- The oven of smallest rank in a list of (rank, oven). -/
def smallestRank : List (Nat × Nat) → Option (Nat × Nat)
  | [] => none
  | x :: rest =>
    match smallestRank rest with
    | none => some x
    | some y => if x.1 ≤ y.1 then some x else some y

/-- The candidate: the eligible oven of smallest rank above the cursor, else of smallest rank of all (R80). -/
def State.candidate (s : State) : Option Nat :=
  let all := eligibleRanks s.cfg 1 s.sched.roster
  match smallestRank (all.filter fun x => s.sched.cursor < x.1) with
  | some x => some x.2
  | none => (smallestRank all).map (·.2)

/-- The cursor takes a value; a change of it asks for the station record to be written (R79, R190). -/
def setCursor (n : Nat) (s : State) : State :=
  if s.sched.cursor = n then s else want .station (s.mapSched fun u => { u with cursor := n })

end Sys2Proof.Machine
end

