-- ==== Sys2Proof/Machine/Car.lean ====
section
/-! DEFINITION. The car unit (chapters 7 and 8): the move queue, position counting, homing, arrivals, FAULT, actions,
the quench cycle, and the closing of the served ticket. -/

namespace Sys2Proof.Machine

/-! ### Output lines derived from the record -/

/-- The car is MOVING with its drive on: not while the stop flag is set, not in HALTED(DUPLICATE) (R124, R137,
R138). -/
def State.driveOn (s : State) : Bool :=
  s.carRuns && (s.car.state == .moving) && !s.ticket.stopFlag && (s.line.state != .haltedDuplicate)

/-- The head of the move queue is a HOME entry. -/
def CarUnit.homing (u : CarUnit) : Bool :=
  match u.queue with
  | m :: _ => m.purpose == .home
  | [] => false

/-- The position is one marker from the target of the head entry (R125). -/
def CarUnit.nearTarget (u : CarUnit) : Bool :=
  match u.queue, u.position with
  | m :: _, some p =>
    match m.target with
    | some t => (p + 1 == t) || (t + 1 == p)
    | none => false
  | _, _ => false

/-- FWD (R2, R124). -/
def State.fwd (s : State) : Bool := s.driveOn && (s.car.direction == .fwd)

/-- REV (R2, R124, R128). -/
def State.rev (s : State) : Bool := s.driveOn && (s.car.direction == .rev)

/-- SLOW: with the drive, one marker from the target or in a HOME move (R124, R125, R128). -/
def State.slow (s : State) : Bool := s.driveOn && (s.car.homing || s.car.nearTarget)

/-- ACT_START: on while an action runs, a stalled ram included (R131, R134). -/
def State.actStart (s : State) : Bool := s.car.action.isSome

/-- ACT_CODE (R2). -/
def State.actCode (s : State) : Nat :=
  match s.car.action with
  | none => 0
  | some .pull => 0
  | some .ram => 1
  | some .replace => 2
  | some .discharge => 3

/-- SPRAY is on while QUENCHING, and only in a car of kind QUENCH (R2, R140). -/
def State.spray (s : State) : Bool :=
  s.carRuns && decide (s.cfg.carKind = .quench) && (s.car.quench == .quenching)

/-- The quench-loaded flag of the station record (R140). -/
def CarUnit.loaded (u : CarUnit) : Bool := u.quench != .empty

/-! ### The served ticket's record -/

/-- The record naming a ticket. -/
def State.recordFor (s : State) (t : Ticket) : Option Record :=
  match s.ticket.record with
  | some r => if r.ticket = t then some r else none
  | none => none

/-- The record naming the served ticket. -/
def State.servedRecord (s : State) : Option Record :=
  match s.car.served with
  | some t => s.recordFor t
  | none => none

/-- A frame for the served ticket's record, when there is one. -/
def State.servedFrame (s : State) (mk : Ticket → Nat → Frame) : Option Frame :=
  s.servedRecord.map fun r => mk r.ticket r.oven

/-- The record that the running action or the held stall was started for, while it has not closed (R132, R135). -/
def State.actionRecord (s : State) : Option Record := if s.car.actionServes then s.servedRecord else none

/-- A frame for the record that the running action or the held stall was started for: none once that record has closed,
also when the car has assented to another claim since (R132, R135; for DONE, STALL and ABANDON log 24). -/
def State.actionFrame (s : State) (mk : Ticket → Nat → Frame) : Option Frame :=
  s.actionRecord.map fun r => mk r.ticket r.oven

/-- A change of the quench phase; a change of the quench-loaded flag asks for the station record to be written
(R140, R190). -/
def setQuench (p : QuenchPhase) (s : State) : State :=
  let s' := s.mapCar fun u => { u with quench := p }
  if s'.car.loaded = s.car.loaded then s' else want .station s'

/-! ### The move queue (R123) -/

/-- An entry in progress stays ahead of an entry that joins at the head. -/
def insertHead (m : Move) (inProgress : Bool) : List Move → List Move
  | [] => [m]
  | x :: rest => if inProgress then x :: m :: rest else m :: x :: rest

/-- DECLINE(QUEUE_FULL) for a removed SPOT entry of the served ticket whose record is before GONE (R123). -/
def declineRemoved (m : Move) (s : State) : State :=
  match m.purpose, m.ticket, s.servedRecord with
  | .spot, some t, some r =>
    if t = r.ticket ∧ r.phase.beforeGone then offer (.decline r.ticket r.oven s.cfg.carKind .queueFull) s else s
  | _, _, _ => s

/-- A TOWER, WHARF or HOME entry joins at the head; at a full queue the tail entry is removed first (R123). -/
def queueHead (m : Move) (s : State) : State :=
  if s.car.queue.length < Config.moveQueueMax then
    s.mapCar fun u => { u with queue := insertHead m u.inProgress u.queue }
  else
    let s' := s.mapCar fun u => { u with queue := insertHead m u.inProgress u.queue.dropLast }
    match s.car.queue.getLast? with
    | some x => declineRemoved x s'
    | none => s'

/-- A SPOT entry joins at the tail; a PARK entry that has not started is removed first (R123). -/
def queueSpot (target : Nat) (t : Ticket) (s : State) : State :=
  s.mapCar fun u =>
    let kept :=
      match u.queue with
      | [] => []
      | x :: rest =>
        if u.inProgress then x :: rest.filter fun m => m.purpose != .park
        else (x :: rest).filter fun m => m.purpose != .park
    { u with queue := kept ++ [⟨.spot, some target, some t⟩] }

/-- The car becomes IDLE; with an empty queue and a known position away from the park marker it queues PARK (R125). -/
def becomeIdle (s : State) : State :=
  s.mapCar fun u =>
    let u := { u with state := .idle }
    match u.queue, u.position with
    | [], some p =>
      if p = s.cfg.parkMarker then u else { u with queue := [⟨.park, some s.cfg.parkMarker, none⟩] }
    | _, _ => u

/-! ### FAULT (R127) -/

/-- Entry into FAULT. -/
def enterCarFault (s : State) : State :=
  let s := raise .carFault (s.mapCar fun u =>
    { u with state := .fault, action := none, markerLimit := none, actionLimit := none, inProgress := false })
  match s.servedRecord with
  | some r =>
    if r.phase.beforeGone ∧ s.car.faultDeclined = false then
      offer (.decline r.ticket r.oven s.cfg.carKind .fault) (s.mapCar fun u => { u with faultDeclined := true })
    else s
  | none => s

/-! ### Arrivals (R125, R128, R141, R145, R147) -/

/-- The head entry leaves the queue and the drive goes off. -/
def dropHeadMove (s : State) : State :=
  s.mapCar fun u => { u with queue := u.queue.tail, inProgress := false, markerLimit := none }

/-- A SPOT entry arrives: SPOTTED with its frame for the served ticket, but a quench car not EMPTY queues the spot
again and becomes IDLE (R125, R141). -/
def arriveSpot (m : Move) (s : State) : State :=
  if m.ticket.isSome ∧ m.ticket = s.car.served then
    if s.cfg.carKind = .quench ∧ s.car.quench ≠ .empty then
      becomeIdle (s.mapCar fun u => { u with queue := u.queue ++ [m] })
    else
      offerOpt (s.servedFrame fun t o => .spotted t o s.cfg.carKind)
        (s.mapCar fun u => { u with state := .spotted })
  else becomeIdle s

/-- A TOWER entry arrives: the hot-travel limit stops, and a LOADED car starts to quench (R144, R145). -/
def arriveTower (s : State) : State :=
  let s := s.mapCar fun u => { u with hotTravel := none }
  if s.car.quench = .loaded then
    setQuench .quenching (s.mapCar fun u =>
      { u with state := .acting, action := none, quenchTimer := startSeconds s.cfg.quenchTime })
  else becomeIdle s

/-- A WHARF entry arrives: DISCHARGING begins, or goes on after CLEAR_CAR (R147, R148). -/
def arriveWharf (s : State) : State :=
  if s.car.quench = .draining ∨ s.car.quench = .discharging then
    setQuench .discharging (s.mapCar fun u => { u with state := .acting, action := none })
  else becomeIdle s

/-- The head entry arrives (R125, R128). -/
def arrive (s : State) : State :=
  match s.car.queue with
  | [] => s
  | m :: _ =>
    let s := dropHeadMove s
    match m.purpose with
    | .spot => arriveSpot m s
    | .park => becomeIdle s
    | .tower => arriveTower s
    | .wharf => arriveWharf s
    | .home => becomeIdle (s.mapCar fun u => { u with position := some 0 })

/-! ### Starting moves and actions -/

/-- The head entry may start (R124). -/
def State.moveMayStart (s : State) : Bool :=
  !s.car.inProgress && !s.ticket.stopFlag && (s.line.state != .haltedDuplicate) && s.car.action.isNone
    && (match s.car.queue with
        | [] => false
        | m :: _ =>
          if m.purpose = .home then s.car.state == .homing
          else s.car.position.isSome
            && ((s.car.state == .idle)
                || ((s.car.state == .spotted) && s.car.served.isNone && !s.car.doorHeld)))

/-- Whether the head entry is already at its place: HOME accepted as asserted, or the target equal to the position
(R124, R128). -/
def CarUnit.atTarget (u : CarUnit) : Bool :=
  match u.queue with
  | [] => false
  | m :: _ => if m.purpose = .home then u.home.accepted else u.position.isSome && (u.position == m.target)

/-- The direction of the head entry: reverse to home, else toward the target (R124, R128). -/
def CarUnit.headDirection (u : CarUnit) : Direction :=
  match u.queue with
  | [] => .fwd
  | m :: _ => if m.purpose = .home then .rev else if u.position.getD 0 < m.target.getD 0 then .fwd else .rev

/-- The head entry starts: the car is MOVING, or arrives at once without driving (R124, R128). -/
def startMove (s : State) : State :=
  if s.car.atTarget then arrive s
  else
    s.mapCar fun u =>
      { u with
        state := .moving
        inProgress := true
        direction := u.headDirection
        markerLimit := startSeconds s.cfg.markerLimit }

/-- No action starts while the stop flag is set, in HALTED(DUPLICATE), or while one runs (R132, R133, R135, R147). -/
def State.actionMayStart (s : State) : Bool :=
  s.car.action.isNone && !s.ticket.stopFlag && (s.line.state != .haltedDuplicate)

/-- The conditions of PULL (R132). -/
def State.pullMayStart (s : State) : Bool :=
  s.actionMayStart && decide (s.cfg.carKind ≠ .quench) && (s.car.state == .spotted) && !s.car.doorHeld
    && (s.servedRecord.map (·.phase) == some .opened)

/-- The conditions of RAM (R133). -/
def State.ramMayStart (s : State) : Bool :=
  s.actionMayStart && decide (s.cfg.carKind = .pusher) && (s.car.state == .spotted) && s.car.doorHeld
    && (s.servedRecord.map (·.phase) == some .gone)

/-- The events that judge RAM: a change of the record's phase, of the stop flag, or of the door held, since the event
began in `s0`; the end of the ram itself is none of them (R132, R133, R137; log 38). -/
def State.judgesRam (s0 s : State) : Bool :=
  decide (s0.ticket.record.map (·.phase) ≠ s.ticket.record.map (·.phase))
    || (s0.ticket.stopFlag != s.ticket.stopFlag) || (s0.car.doorHeld != s.car.doorHeld)

/-- The conditions of REPLACE (R135). -/
def State.replaceMayStart (s : State) : Bool :=
  s.actionMayStart && decide (s.cfg.carKind ≠ .quench) && s.car.doorHeld && s.car.served.isNone
    && (s.car.state != .fault)

/-- The conditions of DISCHARGE, at a car that holds itself ACTING at the wharf (R140, R147; log 23). -/
def State.dischargeMayStart (s : State) : Bool :=
  s.actionMayStart && decide (s.cfg.carKind = .quench) && (s.car.quench == .discharging) && (s.car.state == .acting)

/-- An action starts: ACTING, with the ram limit or the action limit (R131); a pull and a ram serve the record
(R132, R133). -/
def startAction (a : Action) (s : State) : State :=
  s.mapCar fun u =>
    { u with
      action := some a
      actionServes := decide (a = .pull) || decide (a = .ram)
      state := .acting
      actionLimit := startSeconds (if a = .ram then s.cfg.ramLimit else s.cfg.actionLimit) }

/-- The held actions and moves of the car are judged again, in turn, as often as a move arrives at once
(R124, R132, R133, R135, R147; log 26). `ramJudged` says that the event judges RAM. -/
def judgeCar (ramJudged : Bool) : Nat → State → State
  | 0, s => s
  | n + 1, s =>
    if s.pullMayStart then startAction .pull s
    else if ramJudged && s.ramMayStart then startAction .ram s
    else if s.dischargeMayStart then startAction .discharge s
    else if s.replaceMayStart then startAction .replace s
    else if s.moveMayStart then judgeCar ramJudged n (startMove s)
    else s

/-! ### Homing (R128) -/

/-- An UNHOMED car with no held stall queues HOME at the head and becomes HOMING. -/
def beginHoming (s : State) : State :=
  if s.car.state = .unhomed ∧ s.car.stallHeld = false then
    (queueHead ⟨.home, none, none⟩ s).mapCar fun u => { u with state := .homing }
  else s

/-! ### Markers (R122, R125, R126) -/

/-- The position one marker on in the direction of the move, if it stays in 0 to 255 (R122). -/
def nextPosition (d : Direction) (p : Nat) : Option Nat :=
  match d with
  | .fwd => if p < 255 then some (p + 1) else none
  | .rev => if 0 < p then some (p - 1) else none

/-- A running marker limit restarts at an accepted marker edge (R125, R126). -/
def restartMarkerLimit (s : State) : State :=
  s.mapCar fun u => { u with markerLimit := if u.markerLimit.isSome then startSeconds s.cfg.markerLimit else none }

/-- An accepted marker edge (R122, R125, R128). -/
def markerEdge (s : State) : State :=
  if s.car.state = .moving then
    if s.car.homing then restartMarkerLimit s
    else
      match s.car.position with
      | none => s
      | some p =>
        match nextPosition s.car.direction p with
        | none => enterCarFault (s.mapCar fun u => { u with position := none })
        | some p' =>
          let s := restartMarkerLimit (s.mapCar fun u => { u with position := some p' })
          if s.car.atTarget then arrive s else s
  else s

/-- HOME accepted as asserted ends a HOME move (R128). -/
def homeAsserted (s : State) : State :=
  if s.car.state = .moving ∧ s.car.homing = true then arrive s else s

/-! ### Claims (R129) -/

/-- The spot of an oven (R122). -/
def spotMarker (c : Cfg) (oven : Nat) : Nat := c.marker1 + (oven - 1) * c.pitch

/-- The answer to a CLAIM that has opened the record, by the first case that applies (R129). -/
def answerClaim (t : Ticket) (oven : Nat) (s : State) : State :=
  let decline (r : DeclineReason) : State := offer (.decline t oven s.cfg.carKind r) s
  if s.ticket.stopFlag then decline .stopped
  else if s.car.position = none then decline .unhomed
  else if s.car.state = .fault then decline .fault
  else if s.car.queue.length ≥ Config.moveQueueMax then decline .queueFull
  else if 255 < spotMarker s.cfg oven then decline .range
  else
    offer (.assent t oven s.cfg.carKind)
      ((queueSpot (spotMarker s.cfg oven) t s).mapCar fun u => { u with served := some t, faultDeclined := false })

/-! ### Ends of actions (R131 to R135, R147, R148) -/

/-- The action lines go off and the limit stops. -/
def stopAction (s : State) : State := s.mapCar fun u => { u with action := none, actionLimit := none }

/-- The ram is over: SPOTTED, no stall, DONE offered (R133, R134). -/
def ramFinished (s : State) : State :=
  let s := (stopAction s).mapCar fun u => { u with state := .spotted, stallHeld := false }
  offerOpt (s.actionFrame .finished) s

/-- ACT_DONE ends the running action (R131). -/
def actionDone (s : State) : State :=
  match s.car.action with
  | none => s
  | some .pull =>
    let s := (stopAction s).mapCar fun u => { u with state := .spotted, doorHeld := true }
    offerOpt (s.actionFrame fun t o => .ready t o s.cfg.carKind) s
  | some .ram => ramFinished s
  | some .replace => becomeIdle ((stopAction s).mapCar fun u => { u with doorHeld := false })
  | some .discharge => becomeIdle (setQuench .empty (stopAction s))

/-- The ram has stalled: STALL offered, stall held, the limit stops, ACT_START stays on (R134). So too for ACT_FAULT in
HALTED(DUPLICATE), where R138 says both that an action's end is taken as in its own rule and that ACT_START goes off on
ACT_FAULT: that R134 is followed there is the model's choice (log 42). -/
def stallRam (s : State) : State :=
  if s.car.stallHeld then s
  else
    offerOpt (s.actionFrame .stall) (s.mapCar fun u => { u with stallHeld := true, actionLimit := none })

/-- ACT_FAULT or the limit's expiry during an action: a ram stalls, any other action puts the car in FAULT (R131). -/
def actionFailed (s : State) : State :=
  match s.car.action with
  | none => s
  | some .ram => stallRam s
  | some .pull | some .replace | some .discharge => enterCarFault s

/-! ### Closing of the served ticket (R135, R143) -/

/-- Queued entries for a closed ticket go, and one in progress loses its ticket (R135). -/
def dropTicketMoves (t : Ticket) (inProgress : Bool) : List Move → List Move
  | [] => []
  | m :: rest =>
    if inProgress then
      (if m.ticket = some t then { m with ticket := none } else m) :: rest.filter fun x => x.ticket != some t
    else (m :: rest).filter fun x => x.ticket != some t

/-- ASSENT, DECLINE, SPOTTED and READY for a ticket (R135). -/
def Frame.answersTicket (t : Ticket) : Frame → Bool
  | .assent u _ _ => u == t
  | .decline u _ _ _ => u == t
  | .spotted u _ _ => u == t
  | .ready u _ _ => u == t
  | .stop _ | .resume | .abandon _ _ _ | .stall _ _ | .claim _ _ | .opening _ _ | .go _ _ | .finished _ _
  | .aspirate _ | .aspirateEnd _ | .oven _ _ _ | .standing _ => false

/-- The entries, the frames and the served ticket of a closed ticket; a running action serves no record any more
(R132, R135). -/
def releaseTicket (t : Ticket) (s : State) : State :=
  withdrawFrames (Frame.answersTicket t) (s.mapCar fun u =>
    { u with
      queue := dropTicketMoves t u.inProgress u.queue
      actionServes := false
      served := none
      faultDeclined := false })

/-- The closing at a quench car by its phase, the served ticket being the record's (R143). -/
def closeAtQuench (s : State) : State :=
  match s.car.quench with
  | .receiving =>
    becomeIdle ((queueHead ⟨.tower, some s.cfg.towerMarker, none⟩ (setQuench .loaded s)).mapCar fun u =>
      { u with hotTravel := startSeconds s.cfg.hotTravelLimit })
  | .empty => if s.car.state = .spotted then becomeIdle s else s
  | .loaded | .quenching | .draining | .discharging => s

/-- The closing of a record at a car that serves its ticket or holds an entry for it (R135, R143). -/
def carClosing (r : Record) (s : State) : State :=
  let serves := s.car.served = some r.ticket
  if serves ∨ (s.car.queue.any fun m => m.ticket == some r.ticket) then
    let s' := releaseTicket r.ticket s
    if s.cfg.carKind = .quench then (if serves then closeAtQuench s' else s')
    else if s'.car.state = .spotted ∧ s'.car.doorHeld = false then becomeIdle s'
    else s'
  else s

/-! ### GO at the quench car, stop and resume, adopted stalls -/

/-- GO for the served ticket puts an EMPTY quench car in RECEIVING; a queued SPOTTED of its own is withdrawn
(R141, R142). -/
def quenchReceives (t : Ticket) (s : State) : State :=
  if s.cfg.carKind = .quench ∧ s.car.served = some t ∧ s.car.quench = .empty then
    setQuench .receiving
      (withdrawFrames (fun f => match f with | .spotted _ _ _ => true | _ => false) s)
  else s

/-- The stop flag is set: the marker limit of a move stops, the drive being off (R126, R137). -/
def carStopSet (s : State) : State := s.mapCar fun u => { u with markerLimit := none }

/-- The stop flag is cleared: a MOVING car's marker limit starts again with its drive (R126, R137). -/
def carStopCleared (s : State) : State :=
  if s.car.state = .moving then s.mapCar fun u => { u with markerLimit := startSeconds s.cfg.markerLimit } else s

/-- A pusher that adopts a record in GONE or STUCK holds the stall, and for GONE offers STALL (R136). -/
def adoptStall (r : Record) (s : State) : State :=
  if s.cfg.carKind = .pusher ∧ ¬r.phase.beforeGone then
    let s := s.mapCar fun u => { u with stallHeld := true, actionServes := true, served := some r.ticket }
    if r.phase = .gone then offer (.stall r.ticket r.oven) s else s
  else s

/-- RESOLVE(PUSHED) at a held stall: as a late ram done; an adopted stall leaves the car state, and an UNHOMED car
then homes (R128, R134, R136). -/
def resolvePushed (s : State) : State :=
  if s.car.action = some .ram then ramFinished s
  else
    beginHoming (offerOpt (s.actionFrame .finished) (s.mapCar fun u => { u with stallHeld := false }))

/-- RESOLVE(NOT_PUSHED) at a held stall: ABANDON(STALLED), then FAULT (R134). -/
def resolveNotPushed (s : State) : State :=
  let s := s.mapCar fun u => { u with stallHeld := false }
  enterCarFault (offerOpt (s.actionFrame fun t o => .abandon t o .stalled) s)

/-- CLEAR_CAR at a car in FAULT (R139, R148). -/
def clearCar (s : State) : State :=
  let s := s.mapCar fun u =>
    { u with
      queue := u.queue.filter fun m => (m.purpose == .tower) || (m.purpose == .wharf)
      position := none
      actionServes := false
      served := none
      faultDeclined := false
      doorHeld := false }
  let s :=
    if s.cfg.carKind = .quench ∧ s.car.quench = .discharging then queueHead ⟨.wharf, some s.cfg.wharfMarker, none⟩ s
    else s
  (queueHead ⟨.home, none, none⟩ s).mapCar fun u => { u with state := .homing }

/-- The quench timer expires: DRAINING, and the drain timer starts (R145, R149). -/
def quenchExpires (s : State) : State :=
  setQuench .draining (s.mapCar fun u => { u with quenchTimer := none, drainTimer := startSeconds s.cfg.drainTime })

/-- The drain timer expires: a WHARF entry joins at the head and the car becomes IDLE, or stays in FAULT (R146,
R149). -/
def drainExpires (s : State) : State :=
  let s := queueHead ⟨.wharf, some s.cfg.wharfMarker, none⟩ (s.mapCar fun u => { u with drainTimer := none })
  if s.car.state = .fault then s else becomeIdle s

end Sys2Proof.Machine
end

