-- ==== Sys2Proof/Machine/Tickets.lean ====
section
/-! DEFINITION. The ticket unit (chapters 5 and 6): the open-ticket record, the claimant context and its limits, the
orders to the oven, closing, last-done, the stop flag, and the judging of CLAIM, OPEN and GO. -/

namespace Sys2Proof.Machine

/-- A change of the open-ticket record. -/
def mapRecord (f : Record → Record) (s : State) : State :=
  s.mapTicket fun t => { t with record := t.record.map f }

/-- A change of the claimant context. -/
def mapContext (f : Context → Context) (s : State) : State :=
  s.mapTicket fun t => { t with context := t.context.map f }

/-- A context with no limit running and nothing offered (R100, R117, R118). -/
def Context.idle : Context := ⟨.stopped, .stopped, .stopped, false, false, .none⟩

/-- Every limit stops (R112). -/
def Context.stopLimits (c : Context) : Context := { c with assent := .stopped, spot := .stopped, doorOff := .stopped }

/-- The slot index of the record's oven at its owner section. -/
def State.recordSlot (s : State) (r : Record) : Option Nat :=
  if s.resetRecord.role = .ovens then s.slotOf r.oven else none

/-- The station is the claimant of its record: it keeps a context with it (R100). -/
def State.isClaimant (s : State) : Bool := s.ticket.record.isSome && s.ticket.context.isSome

/-! ### Opening and moving the record (R68, R101, R105 to R107) -/

/-- The oven follows the record, and at the first phase after CLAIMED the deflate order is given; the isolate order
stands by the record itself (R68, R101). -/
def ovenFollows (old : Option Phase) (r : Record) (s : State) : State :=
  match s.recordSlot r with
  | none => s
  | some k =>
    let s := changeOven k (Oven.follow r.phase) s
    if r.phase ≠ .claimed ∧ (old = none ∨ old = some .claimed) then giveDeflate k s else s

/-- The claimant's limits at a phase reached: the assent limit stops after CLAIMED, the spot limit starts at ASSENTED,
the door-off limit at OPENED unless both doors are OFF, and both stop at GONE or STUCK (R105, R106, R107, R111). -/
def limitsAtPhase (r : Record) (s : State) : State :=
  match r.phase with
  | .claimed => s
  | .assented => mapContext (fun c => { c with assent := .stopped, spot := startLimit s s.cfg.spotLimit }) s
  | .opened =>
    let off := match s.recordSlot r with
      | some k => s.doorsOff k
      | none => false
    mapContext (fun c =>
      { c with assent := .stopped, doorOff := if off then .stopped else startLimit s s.cfg.doorOffLimit }) s
  | .gone | .stuck => mapContext Context.stopLimits s

/-- The record moves forward to a phase; a phase not ahead of its own changes nothing (R86, R91). A section discards
its pending ABANDON at GONE and STUCK (R86). -/
def advanceRecord (p : Phase) (s : State) : State :=
  match s.ticket.record with
  | none => s
  | some r =>
    if r.phase.rank < p.rank then
      let r' := { r with phase := p }
      let s := mapRecord (fun _ => r') s
      let s := if s.resetRecord.role = .ovens ∧ p.beforeGone = false then forgetDropped r.ticket r.oven s else s
      limitsAtPhase r' (ovenFollows (some r.phase) r' s)
    else s

/-- The record opened by a CLAIM (R88). -/
def Record.opened (t : Ticket) (oven src : Nat) : Record :=
  { ticket := t, oven := oven, claimant := some src, phase := .claimed, assents := .none, reports := .none,
    abandonOffered := false }

/-- A CLAIM opens the record; at its own claimant with a context whose assent limit starts (R88, R100, R105). -/
def openRecord (t : Ticket) (oven src : Nat) (s : State) : State :=
  let r := Record.opened t oven src
  let context : Option Context :=
    if src = s.own ∧ s.resetRecord.role = .ovens then
      some { Context.idle with assent := startLimit s s.cfg.assentLimit }
    else none
  ovenFollows none r (s.mapTicket fun u => { u with record := some r, context := context })

/-! ### Last-done, pacing, closing (R70, R71, R79, R85, R92 to R96, R114 to R116) -/

/-- The last-done ticket takes a value; a change of it asks for the station record to be written (R79). -/
def setLastDone (t : Ticket) (s : State) : State :=
  want .station (s.mapTicket fun u => { u with lastDone := t })

/-- In the section role the pacing timer starts and an outstanding claim is withdrawn (R84, R85). -/
def startPacing (s : State) : State :=
  if s.resetRecord.role = .ovens then
    withdrawClaim (s.mapTicket fun u => { u with pacing := startSeconds s.cfg.pacingTime })
  else s

/-- The claim backoff starts (R85). -/
def startBackoff (s : State) : State := s.mapTicket fun u => { u with backoff := startSeconds s.cfg.claimBackoff }

/-- The kinds of closing of a record (R86). -/
inductive Closing where
  | done | abandoned | lapsed
  deriving DecidableEq, Repr

/-- The owner section at a closing: the orders end and the oven takes its new state, with the claim backoff when the
record closed before GONE without being done (R70, R71, R114, R115, R116). -/
def closeAtOwner (kind : Closing) (r : Record) (k : Nat) (s : State) : State :=
  let s := endDeflate k s
  if kind = .done then changeOven k Oven.toEmpty s
  else
    let s := changeOven k (Oven.notDone r.phase) s
    if r.phase.beforeGone then startBackoff s else s

/-- The record closes: queued OPEN and GO are withdrawn, the context goes, dropped frames for it wait no longer, an
unfinished closing sets TICKET_ABANDONED, and the owner section or the car acts (R86, R95, R96, R100, R104). -/
def closeRecord (kind : Closing) (s : State) : State :=
  match s.ticket.record with
  | none => s
  | some r =>
    let s := forgetDropped r.ticket r.oven (withdrawOpenGo r s)
    let s := s.mapTicket fun u => { u with record := none, context := none }
    let s := raiseIf (decide (kind ≠ .done)) .ticketAbandoned s
    match s.resetRecord.role with
    | .car => carClosing r s
    | .ovens =>
      match s.slotOf r.oven with
      | some k => closeAtOwner kind r k s
      | none => s

/-! ### ABANDON by the claimant (R112) -/

/-- The claimant offers ABANDON while its record is before GONE and the mark is clear: the mark is set, the limits
stop, and a queued OPEN or GO is withdrawn. -/
def offerAbandon (reason : AbandonReason) (s : State) : State :=
  match s.ticket.record with
  | none => s
  | some r =>
    if s.isClaimant ∧ r.phase.beforeGone ∧ r.abandonOffered = false then
      let s := mapContext Context.stopLimits (mapRecord (fun r => { r with abandonOffered := true }) s)
      offer (.abandon r.ticket r.oven reason) (withdrawOpenGo r s)
    else s

/-! ### Adoption of DONE and of a later last-done (R92, R93, R94) -/

/-- A DONE's ticket becomes last-done; in the section role the cursor, the pacing and the claim follow, and the
station record is written (R92, R93). -/
def adoptDone (t : Ticket) (oven : Nat) (s : State) : State :=
  let s := setLastDone t s
  startPacing (if s.resetRecord.role = .ovens then setCursor (rankOf s.cfg oven) s else s)

/-- A later last-done seen in a STANDING from a peer in standing (R94). -/
def adoptLastDone (b : Standing) (s : State) : State :=
  if ticketLater b.common.lastDone s.ticket.lastDone then
    let s := setLastDone b.common.lastDone (closeRecord .done s)
    startPacing
      (if s.resetRecord.role = .ovens ∧ b.part.role = .ovens then setCursor b.common.cursor s else s)
  else s

/-! ### Stop flag (R98, R108, R137) -/

/-- The stop flag is set from clear: the claimant's limits are suspended and its OPEN, GO and CLAIM withdrawn; a car
turns its drive off (R84, R98, R108, R137). -/
def setStop (s : State) : State :=
  let s := s.mapTicket fun u => { u with stopFlag := true }
  match s.resetRecord.role with
  | .car => carStopSet s
  | .ovens =>
    let s := mapContext (fun c =>
      { c with assent := c.assent.suspend, spot := c.spot.suspend, doorOff := c.doorOff.suspend }) s
    let s := match s.ticket.record with
      | some r => if s.isClaimant then withdrawOpenGo r s else s
      | none => s
    withdrawClaim s

/-- The stop flag is cleared from set: suspended limits run on, a MOVING car drives again (R98, R108, R137). -/
def clearStop (s : State) : State :=
  let s := s.mapTicket fun u => { u with stopFlag := false }
  match s.resetRecord.role with
  | .car => carStopCleared s
  | .ovens =>
    mapContext (fun c =>
      { c with assent := c.assent.continueOn, spot := c.spot.continueOn, doorOff := c.doorOff.continueOn }) s

/-! ### Departures from standing (R38, R54, R96, R97) -/

/-- The claimant's car of a kind is lost: ABANDON(CAR_LOST) if that kind has assented (R97). -/
def carLost (k : CarKind) (s : State) : State :=
  match s.ticket.record with
  | some r => if r.assents.has k then offerAbandon .carLost s else s
  | none => s

/-- A departure of a peer from IN_STANDING is reported, with the role and kind it held: a record before GONE whose
claimant it was closes locally, a claimant's assented car is lost, and a section's roster entries go STALE. -/
def departure (n : Nat) (role : Option Role) (kind : Option CarKind) (s : State) : State :=
  let claimantLost :=
    match s.ticket.record with
    | some r => decide (r.claimant = some n) && r.phase.beforeGone
    | none => false
  let s := if claimantLost then closeRecord .lapsed s else s
  let s := match role, kind with
    | some .car, some k => carLost k s
    | _, _ => s
  if s.resetRecord.role = .ovens ∧ role = some .ovens then staleRoster n s else s

/-- A STANDING from an IN_STANDING car of an assented kind, taken at the claimant: it marks the station for its kind
when it shows the record's ticket as served, in every phase of the record (R97, R100), and loses the car when a station so
marked no longer does, which abandons a record before GONE only (R97, R112). -/
def judgeServed (src : Nat) (k : CarKind) (served : Option Ticket) (s : State) : State :=
  match s.ticket.record, s.ticket.context with
  | some r, some c =>
    if r.assents.has k then
      if served = some r.ticket then mapContext (fun c => { c with served := c.served.mark k src }) s
      else if src ∈ c.served.of k then offerAbandon .carLost s
      else s
    else s
  | _, _ => s

/-! ### OPEN and GO (R102, R103, R107, R109, R110) -/

/-- Isolation, seals and doors of the record's oven at the claimant. -/
structure Readbacks where
  isolated : Bool
  sealsDown : Bool
  doorsOff : Bool
  deriving DecidableEq, Repr

/-- The three readbacks of R102. -/
def State.readbacks (s : State) (r : Record) : Readbacks :=
  match s.recordSlot r with
  | some k => ⟨s.isolated k, s.sealsDown k, s.doorsOff k⟩
  | none => ⟨false, false, false⟩

/-- The conditions of OPEN (R103). -/
def State.openHolds (s : State) (r : Record) (c : Context) : Bool :=
  (s.line.state == .active) && (r.phase == .assented) && !r.abandonOffered && !c.openOffered && !s.ticket.stopFlag
    && (s.readbacks r).isolated && (s.readbacks r).sealsDown

/-- The conditions of GO (R109). -/
def State.goHolds (s : State) (r : Record) (c : Context) : Bool :=
  (s.line.state == .active) && (r.phase == .opened) && !r.abandonOffered && !c.goOffered && !s.ticket.stopFlag
    && r.reports.full && (s.readbacks r).isolated && (s.readbacks r).doorsOff

/-- The claimant judges its push again: the door-off limit stops once both doors are OFF (R107), a queued GO is
withdrawn when isolation or the doors no longer hold (R110), OPEN and GO are offered when their conditions hold
(R103, R109). -/
def judgePush (s : State) : State :=
  match s.ticket.record, s.ticket.context with
  | some r, some c =>
    let back := s.readbacks r
    let s := if back.doorsOff then mapContext (fun c => { c with doorOff := .stopped }) s else s
    if s.openHolds r c then
      offer (.opening r.ticket r.oven) (mapContext (fun c => { c with openOffered := true }) s)
    else if s.goHolds r c then
      offer (.go r.ticket r.oven) (mapContext (fun c => { c with goOffered := true }) s)
    else if c.goOffered ∧ ¬(back.isolated ∧ back.doorsOff) then
      withdrawFrame (.go r.ticket r.oven) goNotOffered s
    else s
  | _, _ => s

/-! ### The claim (R81, R82) -/

/-- Exactly one IN_STANDING peer of each car kind (R81). -/
def State.oneOfEach (s : State) : Bool :=
  (s.kindCount .pusher == 1) && (s.kindCount .guide == 1) && (s.kindCount .quench == 1)

/-- The candidate is an own oven, RIPE, not held, suspect or claim-pending (R81). -/
def State.ownCandidate (s : State) : Option (Nat × Nat) :=
  match s.candidate with
  | none => none
  | some n =>
    match s.slotOf n with
    | none => none
    | some k =>
      match s.sched.ovens[k]? with
      | some o => if o.state = .ripe ∧ !o.held ∧ !o.suspect ∧ !o.pending then some (k, n) else none
      | none => none

/-- The claim conditions less the candidate (R81). -/
def State.mayClaim (s : State) : Bool :=
  (s.line.state == .active) && !s.ticket.stopFlag && s.ticket.record.isNone && s.ticket.claim.isNone
    && s.press.main.stable && s.ticket.pacing.isNone && s.ticket.backoff.isNone && s.oneOfEach

/-- The claim is made when its conditions hold (R67, R81, R82). -/
def judgeClaim (s : State) : State :=
  if s.mayClaim then
    match s.ownCandidate with
    | none => s
    | some (k, n) =>
      let t := s.ticket.lastDone + 1
      let s := s.mapTicket fun u => { u with claim := some ⟨t, n⟩ }
      let s := s.mapSched fun u => { u with ovens := u.ovens.modify k fun o => { o with pending := true } }
      offer (.claim t n) s
  else s

end Sys2Proof.Machine
end

