-- ==== Sys2Proof/Machine/ConfigBlock.lean ====
section
/-! DEFINITION. The configuration block (section 1.4): its fields (R5), the check of R5 and R6, and the configuration
in use read from it (R4). -/

namespace Sys2Proof.Machine

/-- The byte at an offset of the block. -/
def cfgByte (m : Memory) (i : Nat) : Nat := (Memory.read m i).toNat

/-- A two-byte field, most significant byte first (R4). -/
def cfgWord (m : Memory) (i : Nat) : Nat := 256 * cfgByte m i + cfgByte m (i + 1)

/-- The byte sum of the block (R4). -/
def cfgSum (m : Memory) : Byte := byteSum (Memory.readBytes m 0 96)

/-- A field in its range. -/
def between (lo hi v : Nat) : Bool := decide (lo ≤ v) && decide (v ≤ hi)

/-- A signed field in its range. -/
def betweenInt (lo hi v : Int) : Bool := decide (lo ≤ v) && decide (v ≤ hi)

/-- The oven of a slot: 1 to 120 and not named by an earlier slot, up to the slot count; 0 above it (R5, R6). -/
def slotOvenOk (m : Memory) (slot : Nat) : Bool :=
  let n := cfgByte m (8 + slot)
  if slot ≤ cfgByte m 8 then
    ovenInRange n && (List.range (slot - 1)).all fun i => cfgByte m (9 + i) != n
  else n == 0

/-- The fields checked in either role, in order of offset (R5). -/
def checksBoth (m : Memory) : List (Nat × Bool) :=
  [(0, between 1 10 (cfgByte m 0)), (1, between 1 3 (cfgByte m 1)), (2, between 4 32 (cfgByte m 2)),
   (3, between 5 60 (cfgByte m 3)), (4, between 1 15 (cfgByte m 4))]

/-- The section's slot map, series and target (R5, R6). -/
def checksMap (m : Memory) : List (Nat × Bool) :=
  [(8, between 1 8 (cfgByte m 8)), (9, slotOvenOk m 1), (10, slotOvenOk m 2), (11, slotOvenOk m 3),
   (12, slotOvenOk m 4), (13, slotOvenOk m 5), (14, slotOvenOk m 6), (15, slotOvenOk m 7), (16, slotOvenOk m 8),
   (17, between 2 9 (cfgByte m 17)),
   (18, between 1 (cfgByte m 17 - 1) (cfgByte m 18) && (Nat.gcd (cfgByte m 18) (cfgByte m 17) == 1)),
   (19, between 240 2400 (cfgWord m 19)), (21, between 10 240 (cfgByte m 21))]

/-- The section's pressure values (R5, R6). -/
def checksPressure (m : Memory) : List (Nat × Bool) :=
  [(22, betweenInt (-500) 500 (signed16 (cfgWord m 22))), (24, betweenInt (-500) 500 (signed16 (cfgWord m 24))),
   (26, between 1 50 (cfgByte m 26)), (27, between 0 100 (cfgByte m 27)), (28, between 2 60 (cfgByte m 28)),
   (29, between 0 62 (cfgByte m 29)),
   (30, between 1 63 (cfgByte m 30) && decide (cfgByte m 29 < cfgByte m 30)),
   (31, between 100 1000 (cfgWord m 31))]
  ++ (List.range 9).map (fun i => (33 + i, betweenInt (-7) 7 (signed8 (cfgByte m (33 + i)))))
  ++ [(42, between 1 50 (cfgByte m 42)), (43, between 5 120 (cfgByte m 43)),
      (44, betweenInt (-500) 500 (signed16 (cfgWord m 44))), (46, between 1 3 (cfgByte m 46)),
      (47, between 60 600 (cfgWord m 47))]

/-- The section's door values and the claimant's timers (R5). -/
def checksDoors (m : Memory) : List (Nat × Bool) :=
  [(49, between 10 120 (cfgByte m 49)), (50, between 1 255 (cfgByte m 50)), (51, between 1 8 (cfgByte m 51)),
   (52, between 0 3 (cfgByte m 52)), (53, between 5 60 (cfgByte m 53)), (54, between 2 30 (cfgByte m 54)),
   (55, between 0 1 (cfgByte m 55)), (56, between 2 30 (cfgByte m 56)), (57, between 60 1200 (cfgWord m 57)),
   (59, between 30 300 (cfgWord m 59)), (61, between 60 900 (cfgWord m 61)), (63, between 10 120 (cfgByte m 63))]

/-- The car's values (R5, R6). -/
def checksCar (m : Memory) : List (Nat × Bool) :=
  [(5, between 1 3 (cfgByte m 5)), (64, between 1 255 (cfgByte m 64)), (65, between 1 2 (cfgByte m 65)),
   (66, between 1 255 (cfgByte m 66)),
   (67, between 1 255 (cfgByte m 67) && (cfgByte m 67 != cfgByte m 66)), (68, between 0 255 (cfgByte m 68)),
   (69, between 5 60 (cfgByte m 69)), (70, between 10 300 (cfgWord m 70)), (72, between 30 300 (cfgWord m 72)),
   (74, between 30 180 (cfgByte m 74)), (75, between 10 120 (cfgByte m 75)), (76, between 30 300 (cfgWord m 76))]

/-- The checks of a role in order of offset (R5). -/
def checksFor (role : Role) (m : Memory) : List (Nat × Bool) :=
  match role with
  | .ovens => checksBoth m ++ checksMap m ++ checksPressure m ++ checksDoors m
  | .car => checksBoth m ++ checksCar m

/-- The first failing offset: 95 for the check byte, then the first field that fails; none if the block is accepted
(R5, R6). -/
def checkConfig (role : Role) (m : Memory) : Option Nat :=
  if cfgSum m ≠ 0 then some 95 else ((checksFor role m).find? fun x => !x.2).map (·.1)

/-- The car kind a checked block holds (R5 offset 5). -/
def kindOfCode (n : Nat) : CarKind := if n = 2 then .guide else if n = 3 then .quench else .pusher

/-- The configuration in use, read from a checked block (R4, R5). -/
def readConfig (m : Memory) : Cfg where
  standingPeriod := cfgByte m 0
  probation := cfgByte m 1
  withdrawThreshold := cfgByte m 2
  withdrawTime := cfgByte m 3
  noiseReject := cfgByte m 4
  carKind := kindOfCode (cfgByte m 5)
  slotCount := cfgByte m 8
  slotOvens := (List.range (cfgByte m 8)).map fun i => cfgByte m (9 + i)
  step := cfgByte m 17
  shift := cfgByte m 18
  defaultTarget := cfgWord m 19
  earlyMinutes := cfgByte m 21
  earlySetpoint := signed16 (cfgWord m 22)
  normalSetpoint := signed16 (cfgWord m 24)
  deadband := (cfgByte m 26 : Int)
  leakRelief := (cfgByte m 27 : Int)
  settleTime := cfgByte m 28
  damperFloor := cfgByte m 29
  damperCeiling := cfgByte m 30
  scanPeriod := cfgWord m 31
  channelOffsets := (List.range 9).map fun i => signed8 (cfgByte m (33 + i))
  mainHysteresis := (cfgByte m 42 : Int)
  mainStableTime := cfgByte m 43
  mainLowLimit := signed16 (cfgWord m 44)
  aspirationLimit := cfgByte m 46
  aspirationTime := cfgWord m 47
  leakWindow := cfgByte m 49
  leakThreshold := cfgByte m 50
  cleanCount := cfgByte m 51
  reseatLimit := cfgByte m 52
  inflateLimit := cfgByte m 53
  deflateTime := cfgByte m 54
  leakFalling := cfgByte m 55 == 1
  assentLimit := cfgByte m 56
  spotLimit := cfgWord m 57
  doorOffLimit := cfgWord m 59
  pacingTime := cfgWord m 61
  claimBackoff := cfgByte m 63
  marker1 := cfgByte m 64
  pitch := cfgByte m 65
  towerMarker := cfgByte m 66
  wharfMarker := cfgByte m 67
  parkMarker := cfgByte m 68
  markerLimit := cfgByte m 69
  actionLimit := cfgWord m 70
  ramLimit := cfgWord m 72
  quenchTime := cfgByte m 74
  drainTime := cfgByte m 75
  hotTravelLimit := cfgWord m 76

end Sys2Proof.Machine
end

