-- ==== Sys2Proof/Machine/Store.lean ====
section
/-! DEFINITION. The store unit (chapter 11): the saved records and their validity, the store queue, writes and their
read-back, writes cut off by a reset, and configuration writes. The byte layout within a record is the model's
(log 11). -/

namespace Sys2Proof.Machine

/-! ### Saved records -/

/-- A page: 15 bytes and the check byte that makes its sum 0 modulo 256 (R185). -/
def withCheck (bytes : List Byte) : List Byte := bytes ++ [0 - byteSum bytes]

/-- Codes of the saved oven states (log 11). -/
def OvenState.code : OvenState → Nat
  | .empty => 0
  | .charging => 1
  | .coking => 2
  | .ripe => 3
  | .claimed => 4
  | .pushing => 5
  | .outOfService => 6
  | .unknown => 7

/-- The saved oven state of a code. -/
def OvenState.ofCode : Nat → Option OvenState
  | 0 => some .empty
  | 1 => some .charging
  | 2 => some .coking
  | 3 => some .ripe
  | 4 => some .claimed
  | 5 => some .pushing
  | 6 => some .outOfService
  | 7 => some .unknown
  | _ => none

/-- A flag as a number. -/
def flagNat (b : Bool) : Nat := if b then 1 else 0

/-- The page of an oven record: pages 6 to 13 in slot order; the station record is page 14 (R185). -/
def RecordId.page : RecordId → Nat
  | .station => 14
  | .ovenOf k => 6 + k

/-- The bytes of an oven record of slot index `k` (R186). -/
def ovenPage (k : Nat) (o : Oven) : List Byte :=
  withCheck
    (toBytes 1 (k + 1) ++ toBytes 1 o.number ++ toBytes 1 o.state.code ++ toBytes 1 (flagNat o.held + 2 * flagNat o.suspect)
      ++ toBytes 2 o.target ++ toBytes 2 o.remaining ++ toBytes 2 o.gross ++ toBytes 3 o.savedMinute ++ [0, 0])

/-- The bytes of the station record: role tag, line minute, last-done, cursor or quench-loaded flag (R187). -/
def stationPage (role : Role) (lineMinute : Nat) (lastDone : Ticket) (last : Nat) : List Byte :=
  withCheck
    (toBytes 1 (if role = .ovens then 1 else 2) ++ toBytes 3 lineMinute ++ toBytes 2 lastDone.toNat
      ++ toBytes 2 last ++ [0, 0, 0, 0, 0, 0, 0])

/-- A number from bytes `i` to `i + n - 1` of a page. -/
def pageField (page : List Byte) (i n : Nat) : Nat := ofBytes ((page.drop i).take n)

/-- The counts agree with the table of counts by state of R56. -/
def countsAgree (st : OvenState) (target remaining gross : Nat) : Bool :=
  match st with
  | .empty | .outOfService => (remaining == 0) && (gross == 0)
  | .charging | .unknown => (remaining == target) && (gross == 0)
  | .coking => between 1 target remaining && decide (gross ≤ 4095)
  | .ripe | .claimed | .pushing => (remaining == 0) && decide (gross ≤ 4095)

/-- A good oven record of slot index `k` holding the oven the slot map gives, as saved (R185, R186). A flag byte with
more than the two flag bits is bad (log 11). -/
def readOvenPage (k number : Nat) (page : List Byte) : Option Oven :=
  match OvenState.ofCode (pageField page 2 1) with
  | none => none
  | some st =>
    let flags := pageField page 3 1
    let target := pageField page 4 2
    let remaining := pageField page 6 2
    let gross := pageField page 8 2
    if byteSum page = 0 ∧ pageField page 0 1 = k + 1 ∧ pageField page 1 1 = number ∧ flags < 4
        ∧ between 240 2400 target ∧ countsAgree st target remaining gross then
      some
        { number := number, state := st, held := flags % 2 == 1, suspect := flags / 2 == 1, pending := false,
          target := target, remaining := remaining, gross := gross, savedMinute := pageField page 10 3,
          restored := true }
    else none

/-- A good oven record's oven after restore (R192). -/
def Oven.restore (o : Oven) : Oven :=
  match o.state with
  | .empty | .coking | .ripe | .outOfService | .unknown => o
  | .charging => { o with state := .coking, remaining := o.target, gross := 0, suspect := true }
  | .claimed => { o with state := .ripe, remaining := 0 }
  | .pushing => { o with state := .outOfService, remaining := 0, gross := 0, suspect := false }

/-- The oven of a bad record (R56, R192). -/
def Oven.unknownDefault (number target : Nat) : Oven :=
  { number := number, state := .unknown, held := false, suspect := false, pending := false, target := target,
    remaining := target, gross := 0, savedMinute := 0, restored := false }

/-- A good station record: line minute, last-done ticket, and cursor or flag (R187). -/
def readStationPage (role : Role) (page : List Byte) : Option (Nat × Ticket × Nat) :=
  let tag := if role = .ovens then 1 else 2
  let last := pageField page 6 2
  let lastMax := if role = .ovens then 1144 else 1
  if byteSum page = 0 ∧ pageField page 0 1 = tag ∧ last ≤ lastMax then
    some (pageField page 1 3, BitVec.ofNat 16 (pageField page 4 2), last)
  else none

/-- The 16 bytes of a page of the array. -/
def Memory.page (m : Memory) (p : Nat) : List Byte := Memory.readBytes m (16 * p) 16

/-! ### The queue and the writes (R188, R189) -/

/-- The order in which the requests of one event join (R188). -/
def recordOrder : List RecordId := .station :: (List.range 8).map .ovenOf

/-- A request coalesces into a queued entry or joins the tail (R188). -/
def joinStoreQueue (q : List RecordId) (r : RecordId) : List RecordId := if r ∈ q then q else q ++ [r]

/-- The page write of a record, captured as it starts; an oven's saved line minute is set, but in a start join it keeps
the restored one (R62, R189, R190). -/
def capture (r : RecordId) (s : State) : List Byte × State :=
  match r with
  | .station =>
    let last := match s.resetRecord.role with
      | .ovens => s.sched.cursor
      | .car => flagNat s.car.loaded
    (stationPage s.resetRecord.role s.peer.lineMinute s.ticket.lastDone last, s)
  | .ovenOf k =>
    match s.sched.ovens[k]? with
    | none => ([], s)
    | some o =>
      let o' := if s.peer.startJoin then o else { o with savedMinute := s.peer.lineMinute }
      (ovenPage k o', s.mapSched fun u => { u with ovens := u.ovens.set k o' })

/-- While no write is in progress, the head entry leaves the queue and its write starts (R188, R189). -/
def startNextWrite (s : State) : State :=
  match s.store.write, s.store.queue with
  | none, r :: rest =>
    let (bytes, s') := capture r s
    s'.mapStore fun u =>
      { u with
        queue := rest
        write := some { page := r.page, bytes := bytes, rewrite := false, rest := [], left := Config.pageWriteMs } }
  | _, _ => s

/-- The requests of the event join the queue, and a write starts if none is in progress (R188). -/
def flushStore (s : State) : State :=
  startNextWrite (s.mapStore fun u =>
    { u with
      queue := (recordOrder.filter fun r => decide (r ∈ u.wanted)).foldl joinStoreQueue u.queue
      wanted := [] })

/-- The page write after one page is over: the next page of a configuration write, or none (R194). -/
def PageWrite.next (w : PageWrite) : Option PageWrite :=
  match w.rest with
  | [] => none
  | (p, b) :: more => some { page := p, bytes := b, rewrite := false, rest := more, left := Config.pageWriteMs }

/-- Sixteen free bytes at the present count. -/
def freePage (f : Nat → Nat → Byte) (n : Nat) : List Byte := (List.range 16).map (f n)

/-- The read-back of a page write (R189, R194): a match completes it, a first mismatch writes the page again, a second
sets STORE_FAULT and leaves the page as the second attempt left it, a free value (log 13). -/
def readBack (isMatch : Bool) (s : State) : State :=
  match s.store.write with
  | none => s
  | some w =>
    if isMatch then
      startNextWrite (s.mapStore fun u => { u with array := Memory.writePage u.array w.page w.bytes, write := w.next })
    else if w.rewrite then
      startNextWrite (raise .storeFault
        { s with
          fresh := s.fresh + 1
          store :=
            { s.store with
              array := Memory.writePage s.store.array w.page (freePage Config.faultByte s.fresh), write := w.next } })
    else s.mapStore fun u => { u with write := some { w with rewrite := true, left := Config.pageWriteMs } }

/-- The pages of a configuration write, in rising order: the new bytes in their places, the others as they stood
(R194). -/
def configPages (m : Memory) (offset : Nat) (bytes : List Byte) : List (Nat × List Byte) :=
  let first := offset / 16
  let last := (offset + bytes.length - 1) / 16
  let new := Memory.writeBytes m offset bytes
  (List.range (last + 1 - first)).map fun i => (first + i, Memory.page new (first + i))

/-- A configuration write starts (R194). -/
def startConfigWrite (offset : Nat) (bytes : List Byte) (s : State) : State :=
  match configPages s.store.array offset bytes with
  | [] => s
  | (p, b) :: more =>
    s.mapStore fun u =>
      { u with write := some { page := p, bytes := b, rewrite := false, rest := more, left := Config.pageWriteMs } }

/-! ### A reset during a write (R191) -/

/-- A page that fails its sum: the bytes, with the first one changed if their sum were 0 (R191). -/
def failSum (bytes : List Byte) : List Byte :=
  if byteSum bytes = 0 then
    match bytes with
    | b :: rest => (b + 1) :: rest
    | [] => []
  else bytes

/-- What a page holds when a reset cut its write off: the old record, a partly erased or written page, an erased page,
or the new record whole, by a free choice (R191; log 12). A partly written record page fails its sum; a page of the
configuration block, below page 6, has no sum of its own. -/
def cutPage (n : Nat) (m : Memory) (w : PageWrite) : Memory :=
  match Config.cutChoice n % 4 with
  | 0 => m
  | 1 =>
    Memory.writePage m w.page
      (if w.page < 6 then freePage Config.cutByte n else failSum (freePage Config.cutByte n))
  | 2 => Memory.writePage m w.page (List.replicate 16 0)
  | _ => Memory.writePage m w.page w.bytes

/-- The array a reset leaves (R191). -/
def arrayAfterReset (s : State) : Memory :=
  match s.store.write with
  | none => s.store.array
  | some w => cutPage s.fresh s.store.array w

end Sys2Proof.Machine
end

