-- ==== Sys2Proof/Machine/Events.lean ====
section
/-! DEFINITION. What several commands share: the judgements made at the end of an event (log 9), entry into
HALTED(DUPLICATE), WITHDRAWN, JOINING and ACTIVE, the STANDING a station builds, and the end of a start join. -/

namespace Sys2Proof.Machine

/-! ### The end of an event -/

/-- One OVEN frame for each own oven whose summary after the event differs from the one before it (R61). -/
def offerOvenFrames : List Oven → List Oven → State → State
  | b :: before, a :: after, s =>
    offerOvenFrames before after
      (if b.summary = a.summary then s else offer (.oven a.number a.summary a.minutesToRipe) s)
  | _, _, s => s

/-- The section's judgements at the end of an event, in this order: damper phases (R172), own roster entries (R52),
OVEN frames (R61), OPEN and GO (R103, R107, R109, R110), the claim (R81) and the store requests (R188). `before`
are the oven records as the event found them. -/
def finishSection (before : List Oven) (s : State) : State :=
  let s := refreshOwnRoster (refreshDampers s)
  flushStore (judgeClaim (judgePush (offerOvenFrames before s.sched.ovens s)))

/-- How often a car's held moves are judged in one event: more than its queue holds entries (log 26). -/
def judgeCarFuel : Nat := 8

/-- The car's judgements at the end of an event that began in `s0`, then the store requests (R124, R132, R133, R135, R147, R188). -/
def finishCar (s0 s : State) : State := flushStore (judgeCar (State.judgesRam s0 s) judgeCarFuel s)

/-- The end of an event that began in state `s0` (log 9). -/
def finish (s0 s : State) : State :=
  if s.running then
    match s.resetRecord.role with
    | .ovens => finishSection s0.sched.ovens s
    | .car => finishCar s0 s
  else s

/-- An event: its own effects, then the judgements. -/
def event (f : State → State) (s : State) : State := finish s (f s)

/-! ### HALTED(DUPLICATE) (R33, R34, R40, R99, R138, R184) -/

/-- Entry into HALTED(DUPLICATE): the queues are emptied and the timers of the line, peer and ticket units stop, an
outstanding claim is given up without backoff, the aspiration list is emptied and a move's drive goes off. -/
def enterDuplicate (s : State) : State :=
  let s := s.mapLine fun u =>
    { u with
      state := .haltedDuplicate
      q0 := []
      q1 := []
      q2 := []
      q3 := []
      attempt := none
      ownReturn := []
      withdrawTimer := none }
  let s := raise .halted s
  let s := s.mapPeer fun u =>
    { u with
      standingTimer := none
      joinTimer := none
      startJoin := false
      table := u.table.map fun p => { p with silence := none } }
  let s := settleClaim false s
  let s := mapContext Context.stopLimits (s.mapTicket fun u => { u with pacing := none, backoff := none })
  let s := s.mapPress fun u => { u with entries := [], listHold := none }
  s.mapCar fun u => { u with markerLimit := none }

/-! ### WITHDRAWN (R28, R40, R84, R96) -/

/-- The claimant that withdraws itself: its record before GONE closes locally, and unless an ABANDON was offered
already ABANDON(OWNER_RESTART) is offered (R96). -/
def ownerWithdrawn (s : State) : State :=
  match s.ticket.record with
  | none => s
  | some r =>
    if s.isClaimant ∧ r.phase.beforeGone then
      let s := closeRecord .lapsed s
      if r.abandonOffered then s else offer (.abandon r.ticket r.oven .ownerRestart) s
    else s

/-- Entry into WITHDRAWN at the end of a failed attempt (R28). -/
def enterWithdrawn (s : State) : State :=
  let s := s.mapLine fun u =>
    { u with state := .withdrawn, q3 := [], withdrawTimer := startSeconds s.cfg.withdrawTime }
  let s := raise .withdrawn s
  let s := s.mapPeer fun u => { u with standingTimer := none }
  withdrawClaim (ownerWithdrawn s)

/-! ### JOINING and ACTIVE (R41, R42, R46, R128, R181) -/

/-- Entry into JOINING: the join window runs twice the standing period, and at a section the list hold starts
(R46, R181). -/
def enterJoining (startJoin : Bool) (s : State) : State :=
  let s := s.mapLine fun u => { u with state := .joining }
  let s := s.mapPeer fun u =>
    { u with joinTimer := startSeconds (2 * s.cfg.standingPeriod), startJoin := startJoin, choice := none, heard := false }
  if s.resetRecord.role = .ovens then
    s.mapPress fun u => { u with listHold := startSeconds s.cfg.aspirationTime }
  else s

/-- The section part or car part of the station's STANDING (R42). -/
def State.standingPart (s : State) : StandingPart :=
  match s.resetRecord.role with
  | .ovens => .ofSection (s.sched.ovens.map fun o => ⟨o.number, o.summary, o.minutesToRipe⟩)
  | .car =>
    .ofCar s.cfg.carKind s.car.position s.car.state
      (if s.cfg.carKind = .quench then some s.car.quench else none) s.car.served

/-- The STANDING the station builds at this moment (R42). -/
def State.buildStanding (s : State) : Standing where
  common :=
    { lineMinute := s.peer.lineMinute
      lastDone := s.ticket.lastDone
      openTicket := (s.ticket.record.map (·.ticket)).getD 0
      openOven := (s.ticket.record.map (·.oven)).getD 0
      openPhase := s.ticket.record.map (·.phase)
      stopFlag := s.ticket.stopFlag
      cursor := if s.resetRecord.role = .ovens then s.sched.cursor else 0
      period := s.cfg.standingPeriod }
  part := s.standingPart

/-- A STANDING is offered and its timer starts from the standing period (R41). -/
def offerStanding (s : State) : State :=
  (offer (.standing s.buildStanding) s).mapPeer fun u => { u with standingTimer := startSeconds s.cfg.standingPeriod }

/-- Entry into ACTIVE: a STANDING is offered, then an UNHOMED car begins to home (R41, R128; log 10). -/
def enterActive (s : State) : State :=
  let s := offerStanding (s.mapLine fun u => { u with state := .active })
  if s.resetRecord.role = .car then beginHoming s else s

/-! ### The end of a start join (R49, R50, R117, R118, R136) -/

/-- The station whose oven map names an oven, the lowest number first (R49 step 2). -/
def mapOwner (oven : Nat) : Nat → List Peer → Option Nat
  | _, [] => none
  | n, p :: rest => if oven ∈ p.map then some n else mapOwner oven (n + 1) rest

/-- The claimant of an adopted record (R49 step 2). -/
def State.adoptedClaimant (s : State) (oven : Nat) : Option Nat :=
  if s.resetRecord.role = .ovens ∧ s.ownsOven oven then some s.own else mapOwner oven 1 s.peer.table

/-- The chosen open ticket is taken as the record when it is exactly one later than last-done, and handed off: an own
oven follows it with a context, before GONE with ABANDON(OWNER_RESTART); a pusher holds an adopted stall
(R49, R117, R118, R136). -/
def adoptRecord (c : StandingCommon) (s : State) : State :=
  match c.openPhase with
  | none => s
  | some p =>
    if c.openTicket = c.lastDone + 1 then
      let r : Record :=
        { ticket := c.openTicket, oven := c.openOven, claimant := s.adoptedClaimant c.openOven, phase := p,
          assents := .none, reports := .none, abandonOffered := false }
      let owns := decide (s.resetRecord.role = .ovens) && s.ownsOven c.openOven
      let s := s.mapTicket fun u =>
        { u with record := some r, context := if owns then some Context.idle else none }
      match s.resetRecord.role with
      | .car => adoptStall r s
      | .ovens => if owns then offerAbandon .ownerRestart (ovenFollows none r s) else s
    else s

/-- The chosen cursor is taken when the choice came from a section (R49). -/
def adoptCursor (c : JoinChoice) (s : State) : State :=
  if s.resetRecord.role = .ovens ∧ c.role = .ovens then setCursor c.common.cursor s else s

/-- Steps 1 to 3 of the end of a start join (R49). -/
def adoptChoice (s : State) : State :=
  match s.peer.choice with
  | none => s
  | some c =>
    if ticketLater c.common.lastDone s.ticket.lastDone then
      adoptRecord c.common (startPacing (adoptCursor c (setLastDone c.common.lastDone (closeRecord .done s))))
    else if c.common.lastDone = s.ticket.lastDone then
      let s := adoptCursor c s
      if s.ticket.record.isNone then adoptRecord c.common s else s
    else s

/-- The catch-up of one restored oven in COKING or RIPE (R50). -/
def catchUpOven (k : Nat) (s : State) : State :=
  match s.sched.ovens[k]? with
  | none => s
  | some o =>
    if o.restored ∧ o.cooks then changeOvenRipening k (Oven.moveClock (s.peer.lineMinute - o.savedMinute)) s else s

/-- A restored oven in COKING or RIPE is flagged suspect (R50). -/
def suspectOven (k : Nat) (s : State) : State :=
  changeOven k (fun o => if o.restored ∧ o.cooks then { o with suspect := true } else o) s

/-- Step 4: catch-up, suspect flags when no STANDING was heard, and a request for every own oven (R50, R190). -/
def catchUp (s : State) : State :=
  let s := forSlots catchUpOven s
  let s := if s.peer.heard then s else raise .clockSuspect (forSlots suspectOven s)
  forSlots (fun k s => want (.ovenOf k) s) s

/-- The join choice is used, then emptied, and the start join is over. -/
def completeStartJoin (s : State) : State :=
  (catchUp (adoptChoice s)).mapPeer fun u => { u with startJoin := false, choice := none }

/-- The end of the join window: a start join is completed, a rejoin keeps everything, and the station enters ACTIVE
(R46, R49, R51). -/
def completeJoin (s : State) : State :=
  let s := s.mapPeer fun u => { u with joinTimer := none }
  enterActive (if s.peer.startJoin then completeStartJoin s else s)

end Sys2Proof.Machine
end

