-- ==== Sys2Proof/Machine/Frames.lean ====
section
/-! DEFINITION. Receiving a frame (R30, R31, R33, R34, R39) and what each frame kind does at the units that take it
(R19): the push protocol (R87 to R98), aspiration (R180 to R182), OVEN (R53, R55) and STANDING (R36, R45, R47, R48,
R53, R55, R94, R97). -/

namespace Sys2Proof.Machine

/-! ### The receiver -/

/-- The station's own frame has been sent whole and stands next in its own receive stream (R25). -/
def State.returning (s : State) (f : Frame) : Bool := s.line.ownReturn.head? == some f

/-- The own frame leaves the receive stream as it is taken. -/
def takeOwn (s : State) : State := s.mapLine fun u => { u with ownReturn := u.ownReturn.tail }

/-- A frame on the line has ended: if it was the station's own cut-off attempt, that is over (R26). -/
def endCutOff (s : State) : State := s.mapLine fun u => { u with cutOff := false }

/-- A STANDING is always handed on; any other peer frame passes the standing gate only from a peer IN_STANDING (R39). -/
def State.gatePasses (s : State) (src : Nat) (f : Frame) : Bool :=
  match f with
  | .standing _ => true
  | _ => s.inStanding src

/-- A frame from a station is received whole (R30, R31, R33, R34, R39), and no rest of a cut-off attempt is on the line
any more (R26): payload and source ranges at fault count RX_BAD; in HALTED(DUPLICATE) a valid frame is counted only; the
station's own returning frame is taken; another frame with the own number halts the station; a peer's frame is counted,
gated and taken as one event. -/
def receive (src : Nat) (f : Frame) (take : State → State) (s : State) : State :=
  if s.running then
    let s := endCutOff s
    if f.valid && between 1 31 src then
      if s.onLine then
        if src = s.own then
          if s.returning f then event (fun s => take (takeOwn s)) s
          else event enterDuplicate (countRxGood s)
        else if s.gatePasses src f then event take (countRxGood s)
        else countRxGood s
      else countRxGood s
    else countRxBad s
  else s

/-! ### STOP and RESUME (R98, R202) -/

/-- STOP: sets the flag and BATTERY_STOP; a STOP taken while it is set changes nothing. -/
def takeStop (s : State) : State := if s.ticket.stopFlag then s else raise .batteryStop (setStop s)

/-- RESUME: clears the flag; with STOPN accepted as asserted a STOP(STOP_PIN) is offered again (R202). -/
def takeResume (s : State) : State :=
  let s := if s.ticket.stopFlag then clearStop s else s
  if s.panel.stopn.accepted then offer (.stop .stopPin) s else s

/-! ### The push protocol -/

/-- The record matches ticket and oven (R87). -/
def State.matching (s : State) (t : Ticket) (oven : Nat) : Option Record :=
  match s.ticket.record with
  | some r => if r.ticket = t ∧ r.oven = oven then some r else none
  | none => none

/-- CLAIM is taken from a section alone (R87): an own oven named by another station is an ownership clash (R69); else it
opens the record when none is present and the ticket is last-done + 1 (R88), which withdraws another outstanding claim
(R84), settles the station's own (R83) and is answered at a car (R129); otherwise it is ignored, and the station's own
is lost (R83). -/
def takeClaim (src : Nat) (t : Ticket) (oven : Nat) (s : State) : State :=
  if s.fromSection src then
    if src ≠ s.own ∧ s.ownsOven oven = true then enterDuplicate s
    else
      let mine := src = s.own ∧ s.ticket.claim = some ⟨t, oven⟩
      if s.ticket.record.isNone ∧ t = s.ticket.lastDone + 1 then
        let s' := openRecord t oven src s
        let s' := if mine then settleClaim false s' else withdrawClaim s'
        if s.resetRecord.role = .car then answerClaim t oven s' else s'
      else if mine then settleClaim true s
      else s
  else s

/-- ASSENT: a matching one adds its kind, and the third makes a CLAIMED record ASSENTED; one for another oven makes the
claimant offer ABANDON(DIVERGED) (R89). -/
def takeAssent (src : Nat) (t : Ticket) (oven : Nat) (k : CarKind) (s : State) : State :=
  if s.fromCar src k then
    match s.ticket.record with
    | none => s
    | some r =>
      if r.ticket ≠ t then s
      else if r.oven ≠ oven then offerAbandon .diverged s
      else if r.assents.has k then s
      else
        let s := mapRecord (fun r => { r with assents := r.assents.put k true }) s
        let s := mapContext (fun c => { c with served := c.served.put k [] }) s
        if (r.assents.put k true).full ∧ r.phase = .claimed then advanceRecord .assented s else s
  else s

/-- DECLINE: a matching one makes the claimant offer ABANDON(DECLINED), one for another oven ABANDON(DIVERGED) (R90). -/
def takeDecline (src : Nat) (t : Ticket) (oven : Nat) (k : CarKind) (s : State) : State :=
  if s.fromCar src k then
    match s.ticket.record with
    | none => s
    | some r =>
      if r.ticket ≠ t then s
      else if r.oven ≠ oven then offerAbandon .diverged s
      else offerAbandon .declined s
  else s

/-- OPEN from the claimant of a matching record: OPENED; the claimant's own is no longer offered (R91, R104). -/
def takeOpen (src : Nat) (t : Ticket) (oven : Nat) (s : State) : State :=
  match s.matching t oven with
  | none => s
  | some r =>
    if r.claimant = some src then advanceRecord .opened (if src = s.own then openNotOffered s else s) else s

/-- SPOTTED adds the kind's report (R91). -/
def takeSpotted (src : Nat) (t : Ticket) (oven : Nat) (k : CarKind) (s : State) : State :=
  if s.fromCar src k ∧ (s.matching t oven).isSome then
    mapRecord (fun r => { r with reports := r.reports.addSpotted k }) s
  else s

/-- READY from a pusher or guide adds its report (R87, R91). -/
def takeReady (src : Nat) (t : Ticket) (oven : Nat) (k : CarKind) (s : State) : State :=
  if k ≠ .quench ∧ s.fromCar src k ∧ (s.matching t oven).isSome then
    mapRecord (fun r => { r with reports := r.reports.addReady k }) s
  else s

/-- GO from the claimant of a matching record: GONE (R91, R111); an EMPTY quench car that serves the ticket is
RECEIVING, also on a GO that finds the record in GONE or STUCK already, since R142 names no phase of the record
(log 40). -/
def takeGo (src : Nat) (t : Ticket) (oven : Nat) (s : State) : State :=
  match s.matching t oven with
  | none => s
  | some r =>
    if r.claimant = some src then
      let s := advanceRecord .gone (if src = s.own then goNotOffered s else s)
      if s.resetRecord.role = .car then quenchReceives t s else s
    else s

/-- STALL from the pusher of a matching record: STUCK, with TICKET_STUCK the first time (R91, R113). -/
def takeStall (src : Nat) (t : Ticket) (oven : Nat) (s : State) : State :=
  match s.matching t oven with
  | none => s
  | some r =>
    if s.fromCar src .pusher ∧ r.phase ≠ .stuck then advanceRecord .stuck (raise .ticketStuck s) else s

/-- DONE from the pusher: a matching one closes the record as done (R92); one for the record's ticket and another oven
closes it as abandoned, and one for a later ticket as a missed DONE, and either is adopted (R93). -/
def takeDone (src : Nat) (t : Ticket) (oven : Nat) (s : State) : State :=
  if s.fromCar src .pusher then
    match s.ticket.record with
    | some r =>
      if r.ticket = t then adoptDone t oven (closeRecord (if r.oven = oven then .done else .abandoned) s)
      else if ticketLater t s.ticket.lastDone then adoptDone t oven (closeRecord .done s)
      else s
    | none => if ticketLater t s.ticket.lastDone then adoptDone t oven s else s
  else s

/-- ABANDON that matches the ticket, STALLED from a pusher and any other reason from a section: the record closes as
abandoned, but in GONE and STUCK only for STALLED (R87, R95). -/
def takeAbandon (src : Nat) (t : Ticket) (reason : AbandonReason) (s : State) : State :=
  let permitted := if reason = .stalled then s.fromCar src .pusher else s.fromSection src
  match s.ticket.record with
  | none => s
  | some r =>
    if permitted ∧ r.ticket = t ∧ (r.phase.beforeGone ∨ reason = .stalled) then closeRecord .abandoned s else s

/-! ### Aspiration and charging (R64, R180 to R182) -/

/-- The station's own ASPIRATE has been admitted: an EMPTY oven with both doors SEALED is CHARGING, otherwise the slot
is given back and CHARGE_REFUSED set (R64). -/
def admitCharge (oven : Nat) (s : State) : State :=
  match s.slotOf oven with
  | none => s
  | some k =>
    if (s.sched.ovens[k]?.map (·.state)) = some .empty ∧ s.chargePermit k = true then changeOven k Oven.toCharging s
    else raise .chargeRefused (offer (.aspirateEnd oven) s)

/-- ASPIRATE: an own oven named by another station, whatever its role, is an ownership clash (log 30); from a section it
is admitted or not; the station's own, refused, sets CHARGE_REFUSED, and under the list hold gives its slot back (R180,
R181). -/
def takeAspirate (src oven : Nat) (s : State) : State :=
  if s.resetRecord.role = .car then s
  else if src ≠ s.own ∧ s.ownsOven oven = true then enterDuplicate s
  else if s.fromSection src then
    if s.admits src oven then
      let s := admitEntry src oven s
      if src = s.own then admitCharge oven s else s
    else if src = s.own then
      raise .chargeRefused (if s.press.listHold.isSome then offer (.aspirateEnd oven) s else s)
    else s
  else s

/-- ASPIRATE_END from a section removes its entry (R182). -/
def takeAspirateEnd (src oven : Nat) (s : State) : State :=
  if s.resetRecord.role = .ovens ∧ s.fromSection src then removeEntry src oven s else s

/-! ### OVEN (R53, R55) -/

/-- OVEN at a section: an own oven named is an ownership clash, another is written to the roster; the station's own
returning is not written. -/
def takeOven (src oven : Nat) (summary : Summary) (minutes : Nat) (s : State) : State :=
  if s.resetRecord.role = .car ∨ src = s.own then s
  else if s.ownsOven oven then enterDuplicate s
  else writeRoster src oven summary minutes s

/-! ### STANDING -/

/-- The peer entry a STANDING leaves, under a configured probation count (R36). -/
def Peer.hear (probation : Nat) (b : Standing) (p : Peer) : Peer :=
  let changed := decide (p.role ≠ some b.part.role) || decide (p.kind ≠ b.part.kind)
  let anew : PeerStanding × Nat := (if probation = 1 then .inStanding else .probation, 1)
  let next : PeerStanding × Nat :=
    match p.standing with
    | .absent | .lapsed => anew
    | .probation =>
      if changed then anew
      else (if p.count + 1 = probation then .inStanding else .probation, p.count + 1)
    | .inStanding => if changed then anew else (.inStanding, probation)
  { standing := next.1
    count := next.2
    role := some b.part.role
    kind := b.part.kind
    map := b.part.ovenMap
    period := b.common.period
    silence := startSeconds (2 * b.common.period) }

/-- Whether a STANDING makes an IN_STANDING peer depart: its role or kind has changed (R36, R38). -/
def Peer.departs (b : Standing) (p : Peer) : Bool :=
  (p.standing == .inStanding) && (decide (p.role ≠ some b.part.role) || decide (p.kind ≠ b.part.kind))

/-- A peer entry is replaced. -/
def setPeer (n : Nat) (p : Peer) (s : State) : State :=
  s.mapPeer fun u => { u with table := u.table.set (n - 1) p }

/-- The number of IN_STANDING peers of a kind became 2 or more: CONFLICT, at a section (R81). -/
def conflictIf (before : State) (s : State) : State :=
  let grew (k : CarKind) : Bool := decide (before.kindCount k < 2) && decide (2 ≤ s.kindCount k)
  raiseIf (decide (s.resetRecord.role = .ovens) && (grew .pusher || grew .guide || grew .quench)) .conflict s

/-- The peer entry is updated, a departure being reported first (R36, R38). -/
def hearPeer (src : Nat) (b : Standing) (s : State) : State :=
  let p := s.peerAt src
  let s := if p.departs b then departure src p.role p.kind s else s
  conflictIf s (setPeer src (p.hear s.cfg.probation b) s)

/-- A greater line minute is adopted from a peer in standing, and in JOINING from any (R45): the time base restarts,
the station record is asked for, and outside a start join the coking counts jump (R49, R58, R190). -/
def adoptMinute (src : Nat) (b : Standing) (s : State) : State :=
  let old := s.peer.lineMinute
  if old < b.common.lineMinute ∧ (s.inStanding src ∨ s.line.state = .joining) then
    let s := want .station (s.mapPeer fun u => { u with lineMinute := b.common.lineMinute, timeBaseMs := 0 })
    if s.peer.startJoin then s else moveClocks old b.common.lineMinute s
  else s

/-- A record whose claimant is unknown takes the sender whose roster list names its oven (R49 step 2; log 21). -/
def fillClaimant (src : Nat) (b : Standing) (s : State) : State :=
  mapRecord (fun r => if r.claimant = none ∧ r.oven ∈ b.part.ovenMap then { r with claimant := some src } else r) s

/-- The ticket unit takes the common part from a peer in standing (R94), and at the claimant the served ticket of an
IN_STANDING car (R97). -/
def standingTickets (src : Nat) (b : Standing) (s : State) : State :=
  let s := fillClaimant src b s
  if s.inStanding src then
    let s := adoptLastDone b s
    match b.part with
    | .ofCar k _ _ _ served => judgeServed src k served s
    | .ofSection _ => s
  else s

/-- The schedule unit takes the roster list of a section peer in standing (R53). -/
def standingRoster (src : Nat) (b : Standing) (s : State) : State :=
  match b.part with
  | .ofSection items =>
    if s.resetRecord.role = .ovens ∧ s.inStanding src then takeRosterList src items s else s
  | .ofCar _ _ _ _ _ => s

/-- In a start join the STANDING is weighed against the join choice (R47) and its stop flag is taken (R48). -/
def standingJoin (b : Standing) (s : State) : State :=
  if s.line.state = .joining ∧ s.peer.startJoin then
    let better :=
      match s.peer.choice with
      | none => true
      | some c => ticketLater b.common.lastDone c.common.lastDone || (b.common.lastDone == c.common.lastDone)
    let s := s.mapPeer fun u =>
      { u with heard := true, choice := if better then some ⟨b.common, b.part.role⟩ else u.choice }
    if b.common.stopFlag ∧ s.ticket.stopFlag = false then setStop s else s
  else s

/-- The roster list names an own oven (R55). -/
def State.clashes (s : State) (b : Standing) : Bool := b.part.ovenMap.any fun n => s.ownsOven n

/-- STANDING from a peer: the ownership check first, then peer entry, line minute, ticket values, roster and join
choice (R36, R45, R47, R48, R53, R55, R94); the station's own is taken by no unit (R39). -/
def takeStanding (src : Nat) (b : Standing) (s : State) : State :=
  if src = s.own then s
  else if s.clashes b then enterDuplicate s
  else
    standingJoin b
      (standingRoster src b (standingTickets src b (adoptMinute src b (hearPeer src b s))))

end Sys2Proof.Machine
end

