-- ==== Sys2Proof/Machine/Resets.lean ====
section
/-! DEFINITION. Resets and the start sequence (sections 1.5 to 1.7, 11.5): POWER_ON_RESET, RSTN_LOW, RESTART_RESET and
START_SEQUENCE. -/

namespace Sys2Proof.Machine

/-- A reset at once on every unit: outputs off, every timer stopped, queues, transaction and write in progress lost;
the pins, the array and the waiting commands stay (R7, R8, R191). -/
def resetStation (cause : ResetCause) (rstnLow : Bool) (s : State) : State :=
  { State.reset with
    pending := s.pending
    pins := { s.pins with rstnLow := rstnLow }
    resetRecord := { State.reset.resetRecord with cause := cause }
    store := { StoreUnit.delivered with array := arrayAfterReset s }
    fresh := s.fresh + 1 }

/-- A start halt: HALTED with its cause, and the HALTED event (R9, R10, R12). -/
def startHaltIn (l : LineState) (s : State) : State := raise .halted (s.mapLine fun u => { u with state := l })

/-- The ovens of the slots as their records, or their defaults, restore them (R56, R192). -/
def restoreOvens (c : Cfg) (m : Memory) : Nat → List Nat → List Oven
  | _, [] => []
  | k, n :: rest =>
    (match readOvenPage k n (Memory.page m (6 + k)) with
      | some o => o.restore
      | none => Oven.unknownDefault n c.defaultTarget) :: restoreOvens c m (k + 1) rest

/-- How many of the oven records are good (R11). -/
def goodOvens (m : Memory) : Nat → List Nat → Nat
  | _, [] => 0
  | k, n :: rest =>
    (if (readOvenPage k n (Memory.page m (6 + k))).isSome then 1 else 0) + goodOvens m (k + 1) rest

/-- The counts of the reset cause record; a bad record sets STORE_FAULT (R11, R193). -/
def recordCounts (good total : Nat) (s : State) : State :=
  raiseIf (decide (good < total)) .storeFault
    { s with resetRecord := { s.resetRecord with restored := good, bad := total - good } }

/-- Third step of the start sequence at a section station (R11, R43, R52, R56, R79, R151, R167, R169, R171, R192, R193). -/
def restoreSection (s : State) : State :=
  let c := s.cfg
  let m := s.store.array
  let station := readStationPage .ovens (Memory.page m 14)
  let ovens := restoreOvens c m 0 c.slotOvens
  let s := recordCounts (goodOvens m 0 c.slotOvens + (if station.isSome then 1 else 0)) (c.slotCount + 1) s
  let s := s.mapPeer fun u => { u with lineMinute := (station.map (·.1)).getD 0 }
  let s := s.mapTicket fun u => { u with lastDone := (station.map (·.2.1)).getD 0 }
  let s := s.mapSched fun u => { u with ovens := ovens, cursor := (station.map (·.2.2)).getD 0 }
  let doorAt (k : Nat) (side : Side) : Door :=
    Door.atStart c (s.lineLevel (.latch (k + 1) side)) (s.sealLevel (k + 1) side) (s.lineLevel (.leak (k + 1) side))
  let s := s.mapDoor fun _ =>
    (List.range c.slotCount).map fun k => { p := doorAt k .pusherSide, c := doorAt k .cokeSide }
  let s := s.mapPress fun u =>
    { u with
      scanTimer := some c.scanPeriod
      converting := some 0
      channels := List.replicate (c.slotCount + 1) Channel.reset
      dampers := List.replicate c.slotCount Damper.reset
      boundary := some Config.positionerPeriodMs }
  refreshOwnRoster (refreshDampers s)

/-- The quench phase a car restores: LOADED for kind QUENCH when the flag is set or the record is bad (R150, R193). -/
def restoredQuench (kind : CarKind) (station : Option (Nat × Ticket × Nat)) : QuenchPhase :=
  if kind = .quench then
    match station with
    | some (_, _, flag) => if flag = 0 then .empty else .loaded
    | none => .loaded
  else .empty

/-- Third step of the start sequence at a car station (R11, R43, R120, R121, R150, R193). -/
def restoreCar (s : State) : State :=
  let c := s.cfg
  let station := readStationPage .car (Memory.page s.store.array 14)
  let phase := restoredQuench c.carKind station
  let s := recordCounts (if station.isSome then 1 else 0) 1 s
  let s := s.mapPeer fun u => { u with lineMinute := (station.map (·.1)).getD 0 }
  let s := s.mapTicket fun u => { u with lastDone := (station.map (·.2.1)).getD 0 }
  s.mapCar fun u =>
    { u with
      quench := phase
      queue := if phase = .loaded then [⟨.tower, some c.towerMarker, none⟩] else []
      marker := ⟨s.lineLevel .marker, none⟩
      home := ⟨s.lineLevel .home, none⟩ }

/-- The end of the start sequence: the accepted level of STOPN is the level present, JOINING is entered, and an
asserted STOPN offers STOP (R11, R46, R202). -/
def endStart (s : State) : State :=
  let s := enterJoining true (s.mapPanel fun u => { u with stopn := ⟨s.pins.stopnAsserted, none⟩ })
  if s.pins.stopnAsserted then offer (.stop .stopPin) s else s

/-- The start sequence: straps, configuration check, restore (R3, R9, R10, R11). -/
def startStation (roleHigh : Bool) (stn : Nat) (s : State) : State :=
  let role : Role := if roleHigh then .car else .ovens
  let s :=
    { s with
      pins := { s.pins with roleHigh := roleHigh, stn := stn, rstnLow := false }
      resetRecord := { s.resetRecord with role := role, station := stn } }
  if stn = 0 then startHaltIn .haltedStrap s
  else
    match checkConfig role s.store.array with
    | some offset =>
      startHaltIn .haltedConfig { s with resetRecord := { s.resetRecord with failOffset := some offset } }
    | none =>
      let s := { s with cfg := readConfig s.store.array }
      endStart (match role with | .ovens => restoreSection s | .car => restoreCar s)

/-! ### Meanings -/

/-- POWER_ON_RESET (R7, R8): cause POWER_ON, also when RSTN is held low during power-up. -/
def execPowerOnReset (rstnHeldLow : Bool) (s : State) : Host.Outcome State Fault Refusal :=
  .next (resetStation .powerOn rstnHeldLow s)

/-- RSTN_LOW (R7, R8): RSTN taken low resets with cause PIN; while it is low already nothing changes. -/
def execRstnLow (s : State) : Host.Outcome State Fault Refusal :=
  .next (if s.pins.rstnLow then s else resetStation .pin true s)

/-- START_SEQUENCE (R7, R9 to R11): it runs from the reset condition, with RSTN high from then on; a running or halted
station has no start sequence to begin. -/
def execStartSequence (roleHigh : Bool) (stn : Nat) (s : State) : Host.Outcome State Fault Refusal :=
  .next (if s.line.state = .inReset then startStation roleHigh stn s else s)

/-- RESTART_RESET (R7, R199): the reset a RESTART asked for, with cause PANEL. -/
def execRestartReset (s : State) : Host.Outcome State Fault Refusal :=
  .next (if s.panel.restartPending then resetStation .panel s.pins.rstnLow s else s)

end Sys2Proof.Machine
end

