-- ==== Sys2Proof/Machine/LineCommands.lean ====
section
/-! DEFINITION. The line interface's own commands: attempts (R21, R23, R25 to R28), receive faults (R30) and the withdraw
timer (R29). -/

namespace Sys2Proof.Machine

/-- The head frame of the lowest-numbered non-empty class (R23). -/
def LineUnit.nextToSend (u : LineUnit) : Option Queued :=
  match u.q0, u.q1, u.q2, u.q3 with
  | q :: _, _, _, _ => some q
  | [], q :: _, _, _ => some q
  | [], [], q :: _, _ => some q
  | [], [], [], q :: _ => some q
  | [], [], [], [] => none

/-- An attempt begins: a copy of the frame to send (R23). The line was idle, so no cut-off attempt goes on (R15, R26). -/
def beginAttempt (s : State) : State :=
  if s.line.state = .active ∧ s.line.attempt = none then
    match s.line.nextToSend with
    | some q => s.mapLine fun u => { u with attempt := some ⟨q.frame, false⟩, cutOff := false }
    | none => s
  else s

/-- The end of a failed attempt that is not counted against the frame: a marked frame is removed (R21, R24). -/
def loseAttempt (a : Attempt) (s : State) : State :=
  let s := s.mapLine fun u => { u with attempt := none }
  if a.replaced then s
  else
    match s.line.queue a.frame.cls with
    | q :: _ => if q.marked then onMarkedRemoved q.frame (removeHead a.frame.cls s) else s
    | [] => s

/-- A transmit error raises the attempt count of the frame sent; at 8 it is dropped, and a marked frame is removed as
withdrawn (R24, R26, R27). What the line then carries is the station's own cut-off attempt until it ends (R26). -/
def failAttempt (a : Attempt) (s : State) : State :=
  let s := countTxRetry (s.mapLine fun u => { u with attempt := none, score := u.score + 1, cutOff := true })
  if a.replaced then s
  else
    match s.line.queue a.frame.cls with
    | [] => s
    | q :: rest =>
      if q.marked then onMarkedRemoved q.frame (removeHead a.frame.cls s)
      else if q.attempts + 1 < Config.attemptLimit then
        s.mapLine fun u => u.setQueue a.frame.cls ({ q with attempts := q.attempts + 1 } :: rest)
      else onDrop q.frame (countTxDrop (removeHead a.frame.cls s))

/-- A transmit error, and entry into WITHDRAWN at the withdraw threshold (R26, R27, R28). -/
def transmitErrorTaken (a : Attempt) (s : State) : State :=
  let s := failAttempt a s
  if s.cfg.withdrawThreshold ≤ s.line.score then enterWithdrawn s else s

/-- An attempt completes: TX_DONE, the score falls, the frame leaves its queue unless it was replaced, and enters the
own receive stream; dropped frames are offered again (R25, R86, R130, R202). -/
def completeAttempt (a : Attempt) (s : State) : State :=
  let s := countTxDone (s.mapLine fun u =>
    { u with attempt := none, score := u.score - 1, ownReturn := u.ownReturn ++ [a.frame] })
  reofferDropped (if a.replaced then s else removeHead a.frame.cls s)

/-- An event of the attempt in progress. -/
def inAttempt (f : Attempt → State → State) (s : State) : State :=
  match s.line.attempt with
  | some a => event (f a) s
  | none => s

/-- The withdraw timer expires: the score and the attempt counts become 0 and a rejoin begins (R29). -/
def endWithdrawal (s : State) : State :=
  let clear (q : List Queued) : List Queued := q.map fun x => { x with attempts := 0 }
  enterJoining false (s.mapLine fun u =>
    { u with q0 := clear u.q0, q1 := clear u.q1, q2 := clear u.q2, q3 := clear u.q3, score := 0, withdrawTimer := none })

/-! ### Meanings -/

/-- ATTEMPT_START (R15, R23). -/
def execAttemptStart (s : State) : Host.Outcome State Fault Refusal := .next (beginAttempt s)

/-- ARBITRATION_LOST (R21): nothing is counted. -/
def execArbitrationLost (s : State) : Host.Outcome State Fault Refusal := .next (inAttempt loseAttempt s)

/-- TRANSMIT_ERROR (R26). -/
def execTransmitError (s : State) : Host.Outcome State Fault Refusal := .next (inAttempt transmitErrorTaken s)

/-- ATTEMPT_COMPLETE (R25). -/
def execAttemptComplete (s : State) : Host.Outcome State Fault Refusal := .next (inAttempt completeAttempt s)

/-- A fault is found on the line: RX_BAD (R30), but not where it ends the station's own cut-off attempt, whatever its kind
(R26; log 7). -/
def takeFault (s : State) : State := if s.line.cutOff then endCutOff s else countRxBad (endCutOff s)

/-- RECEIVE_FAULT (R26, R30). -/
def execReceiveFault (_ : RxFault) (s : State) : Host.Outcome State Fault Refusal :=
  .next (if s.running then takeFault s else s)

/-- WITHDRAW_TIMER_EXPIRY (R29). -/
def execWithdrawTimerExpiry (s : State) : Host.Outcome State Fault Refusal :=
  .next (if s.line.state = .withdrawn ∧ s.line.withdrawTimer.isSome then endWithdrawal s else s)

end Sys2Proof.Machine
end

