-- ==== Sys2Proof/Machine/FrameCommands.lean ====
section
/-! DEFINITION. The sixteen frame commands: each is received (R30, R31, R33, R34, R39) and taken by its units (R19). -/

namespace Sys2Proof.Machine

/-- STOP (R98). -/
def execStopFrame (src : Nat) (origin : StopOrigin) (s : State) : Host.Outcome State Fault Refusal :=
  .next (receive src (.stop origin) takeStop s)

/-- RESUME (R98, R202). -/
def execResumeFrame (src : Nat) (s : State) : Host.Outcome State Fault Refusal :=
  .next (receive src .resume takeResume s)

/-- ABANDON (R95). -/
def execAbandonFrame (src : Nat) (t : Ticket) (oven : Nat) (reason : AbandonReason) (s : State) :
    Host.Outcome State Fault Refusal :=
  .next (receive src (.abandon t oven reason) (takeAbandon src t reason) s)

/-- STALL (R91, R113). -/
def execStallFrame (src : Nat) (t : Ticket) (oven : Nat) (s : State) : Host.Outcome State Fault Refusal :=
  .next (receive src (.stall t oven) (takeStall src t oven) s)

/-- CLAIM (R69, R88, R129). -/
def execClaimFrame (src : Nat) (t : Ticket) (oven : Nat) (s : State) : Host.Outcome State Fault Refusal :=
  .next (receive src (.claim t oven) (takeClaim src t oven) s)

/-- ASSENT (R89). -/
def execAssentFrame (src : Nat) (t : Ticket) (oven : Nat) (kind : CarKind) (s : State) :
    Host.Outcome State Fault Refusal :=
  .next (receive src (.assent t oven kind) (takeAssent src t oven kind) s)

/-- DECLINE (R90). -/
def execDeclineFrame (src : Nat) (t : Ticket) (oven : Nat) (kind : CarKind) (reason : DeclineReason) (s : State) :
    Host.Outcome State Fault Refusal :=
  .next (receive src (.decline t oven kind reason) (takeDecline src t oven kind) s)

/-- OPEN (R91, R104). -/
def execOpenFrame (src : Nat) (t : Ticket) (oven : Nat) (s : State) : Host.Outcome State Fault Refusal :=
  .next (receive src (.opening t oven) (takeOpen src t oven) s)

/-- SPOTTED (R91). -/
def execSpottedFrame (src : Nat) (t : Ticket) (oven : Nat) (kind : CarKind) (s : State) :
    Host.Outcome State Fault Refusal :=
  .next (receive src (.spotted t oven kind) (takeSpotted src t oven kind) s)

/-- READY (R91). -/
def execReadyFrame (src : Nat) (t : Ticket) (oven : Nat) (kind : CarKind) (s : State) :
    Host.Outcome State Fault Refusal :=
  .next (receive src (.ready t oven kind) (takeReady src t oven kind) s)

/-- GO (R91, R111, R142). -/
def execGoFrame (src : Nat) (t : Ticket) (oven : Nat) (s : State) : Host.Outcome State Fault Refusal :=
  .next (receive src (.go t oven) (takeGo src t oven) s)

/-- DONE (R92, R93). -/
def execDoneFrame (src : Nat) (t : Ticket) (oven : Nat) (s : State) : Host.Outcome State Fault Refusal :=
  .next (receive src (.finished t oven) (takeDone src t oven) s)

/-- ASPIRATE (R180). -/
def execAspirateFrame (src : Nat) (oven : Nat) (s : State) : Host.Outcome State Fault Refusal :=
  .next (receive src (.aspirate oven) (takeAspirate src oven) s)

/-- ASPIRATE_END (R182). -/
def execAspirateEndFrame (src : Nat) (oven : Nat) (s : State) : Host.Outcome State Fault Refusal :=
  .next (receive src (.aspirateEnd oven) (takeAspirateEnd src oven) s)

/-- OVEN (R53). -/
def execOvenFrame (src : Nat) (oven : Nat) (summary : Summary) (minutes : Nat) (s : State) :
    Host.Outcome State Fault Refusal :=
  .next (receive src (.oven oven summary minutes) (takeOven src oven summary minutes) s)

/-- STANDING (R36). -/
def execStandingFrame (src : Nat) (body : Standing) (s : State) : Host.Outcome State Fault Refusal :=
  .next (receive src (.standing body) (takeStanding src body) s)

end Sys2Proof.Machine
end

