-- ==== Sys2Proof/Machine/TimerCommands.lean ====
section
/-! DEFINITION. The timer commands of the peer and ticket units (chapters 3, 5 and 6), and the passing of one
millisecond. A timer's expiry is taken while the timer runs, whatever its time left (log 2); it finds a stopped timer
without effect. -/

namespace Sys2Proof.Machine

/-- A peer lapses (R37, R38). -/
def lapsePeer (n : Nat) (s : State) : State :=
  let p := s.peerAt n
  let s := raise .peerLapsed
    (countLapse (setPeer n { p with standing := .lapsed, count := 0, silence := none } s))
  if p.standing = .inStanding then departure n p.role p.kind s else s

/-- The line minute advances by 1 unless it stands at its end; the time base returns to 0 (R44, R57, R62, R190). -/
def advanceMinute (s : State) : State :=
  let s := s.mapPeer fun u => { u with timeBaseMs := 0 }
  if s.peer.lineMinute < Config.lineMinuteMax then
    let old := s.peer.lineMinute
    let s := s.mapPeer fun u => { u with lineMinute := old + 1 }
    let s := if (old + 1) % 10 = 0 then want .station s else s
    if s.peer.startJoin then s else moveClocks old (old + 1) s
  else s

/-- The assent limit expires (R105). -/
def assentExpires (s : State) : State :=
  let s' := mapContext (fun c => { c with assent := .stopped }) s
  if s.ticket.record.map (·.phase) = some .claimed then offerAbandon .noAssent s' else s'

/-- The spot limit expires (R106). -/
def spotExpires (s : State) : State :=
  let s' := mapContext (fun c => { c with spot := .stopped }) s
  if s.ticket.record.map (·.phase) = some .assented ∨ s.ticket.record.map (·.phase) = some .opened then
    offerAbandon .notSpotted s'
  else s'

/-- The door-off limit expires (R107). -/
def doorOffExpires (s : State) : State :=
  offerAbandon .doorTimeout (mapContext (fun c => { c with doorOff := .stopped }) s)

/-- Whether one of the claimant's limits is running. -/
def State.limitRuns (s : State) (f : Context → Limit) : Bool := (s.ticket.context.map fun c => (f c).isRunning).getD false

/-! ### Meanings -/

/-- SILENCE_TIMER_EXPIRY (R37, R38). -/
def execSilenceTimerExpiry (n : Nat) (s : State) : Host.Outcome State Fault Refusal :=
  .next (if s.onLine && (s.peerAt n).silence.isSome then event (lapsePeer n) s else s)

/-- STANDING_PERIOD_EXPIRY (R41). -/
def execStandingPeriodExpiry (s : State) : Host.Outcome State Fault Refusal :=
  .next (if s.line.state = .active ∧ s.peer.standingTimer.isSome then offerStanding s else s)

/-- JOIN_WINDOW_EXPIRY (R46, R49, R51). -/
def execJoinWindowExpiry (s : State) : Host.Outcome State Fault Refusal :=
  .next (if s.line.state = .joining ∧ s.peer.joinTimer.isSome then event completeJoin s else s)

/-- LINE_MINUTE_ADVANCE (R44). -/
def execLineMinuteAdvance (s : State) : Host.Outcome State Fault Refusal :=
  .next (if s.running then event advanceMinute s else s)

/-- PACING_TIMER_EXPIRY (R81, R85). -/
def execPacingTimerExpiry (s : State) : Host.Outcome State Fault Refusal :=
  .next (if s.ticket.pacing.isSome then event (fun s => s.mapTicket fun u => { u with pacing := none }) s else s)

/-- CLAIM_BACKOFF_EXPIRY (R81, R85). -/
def execClaimBackoffExpiry (s : State) : Host.Outcome State Fault Refusal :=
  .next (if s.ticket.backoff.isSome then event (fun s => s.mapTicket fun u => { u with backoff := none }) s else s)

/-- ASSENT_LIMIT_EXPIRY (R105). -/
def execAssentLimitExpiry (s : State) : Host.Outcome State Fault Refusal :=
  .next (if s.limitRuns (·.assent) then event assentExpires s else s)

/-- SPOT_LIMIT_EXPIRY (R106). -/
def execSpotLimitExpiry (s : State) : Host.Outcome State Fault Refusal :=
  .next (if s.limitRuns (·.spot) then event spotExpires s else s)

/-- DOOR_OFF_LIMIT_EXPIRY (R107). -/
def execDoorOffLimitExpiry (s : State) : Host.Outcome State Fault Refusal :=
  .next (if s.limitRuns (·.doorOff) then event doorOffExpires s else s)

/-! ### One millisecond (log 1) -/

/-- A reject timer counts down. -/
def Rejected.tick (r : Rejected) : Rejected := { r with timer := countDown r.timer }

/-- A door's timers count down. -/
def Door.tick (d : Door) : Door :=
  { d with
    window := countDown d.window
    inflate := countDown d.inflate
    deflate := countDown d.deflate
    latch := d.latch.tick
    leak := d.leak.tick }

/-- The pressure unit's timers count down. -/
def PressureUnit.tick (u : PressureUnit) : PressureUnit :=
  { u with
    scanTimer := countDown u.scanTimer
    main := { u.main with stableTimer := countDown u.main.stableTimer }
    dampers := u.dampers.map fun d => { d with settle := countDown d.settle }
    boundary := countDown u.boundary
    entries := u.entries.map fun e => { e with left := e.left - 1 }
    listHold := countDown u.listHold }

/-- The car unit's timers count down. -/
def CarUnit.tick (u : CarUnit) : CarUnit :=
  { u with
    markerLimit := countDown u.markerLimit
    actionLimit := countDown u.actionLimit
    hotTravel := countDown u.hotTravel
    quenchTimer := countDown u.quenchTimer
    drainTimer := countDown u.drainTimer
    marker := u.marker.tick
    home := u.home.tick }

/-- The ticket unit's timers count down. -/
def TicketUnit.tick (u : TicketUnit) : TicketUnit :=
  { u with
    pacing := countDown u.pacing
    backoff := countDown u.backoff
    context := u.context.map fun c =>
      { c with assent := c.assent.countDown, spot := c.spot.countDown, doorOff := c.doorOff.countDown } }

/-- The peer unit's timers count down; the seconds time base counts up to its 60th second while the units run (R43). -/
def PeerUnit.tick (running : Bool) (u : PeerUnit) : PeerUnit :=
  { u with
    table := u.table.map fun p => { p with silence := countDown p.silence }
    timeBaseMs := if running then min 60000 (u.timeBaseMs + 1) else u.timeBaseMs
    standingTimer := countDown u.standingTimer
    joinTimer := countDown u.joinTimer }

/-- The seconds time base, 0 to 59 (R43). -/
def PeerUnit.seconds (u : PeerUnit) : Nat := min 59 (u.timeBaseMs / 1000)

/-- One millisecond passes: every running timer counts down by it, and none goes below 0 (log 1). -/
def tick (s : State) : State :=
  { s with
    line := { s.line with withdrawTimer := countDown s.line.withdrawTimer }
    peer := s.peer.tick s.running
    ticket := s.ticket.tick
    door := s.door.map fun d => { p := d.p.tick, c := d.c.tick }
    press := s.press.tick
    car := s.car.tick
    store := { s.store with write := s.store.write.map fun w => { w with left := w.left - 1 } }
    panel := { s.panel with stopn := s.panel.stopn.tick } }

end Sys2Proof.Machine
end

