-- ==== Sys2Proof/Machine/FieldCommands.lean ====
section
/-! DEFINITION. The commands of the field lines: inputs behind a noise rejector (R121, R152, R202), seal switches
(R155, R160) and the door timers (R155, R157, R161). -/

namespace Sys2Proof.Machine

/-! ### The noise rejector -/

/-- The input's level at the pin has changed: against the accepted level the reject timer starts, back at it the timer
stops (R121, R152). -/
def Rejected.change (rejectMs : Nat) (level : Bool) (r : Rejected) : Rejected :=
  if level = r.accepted then { r with timer := none }
  else if r.timer.isSome then r
  else { r with timer := some rejectMs }

/-- The timer expires with the input at its new level: the change is accepted (R121, R152). -/
def Rejected.accept (level : Bool) (_ : Rejected) : Rejected := ⟨level, none⟩

/-- The latch or leak input of a door. -/
inductive DoorLine where
  | latch | leak
  deriving DecidableEq, Repr

/-- A door with one of its rejected inputs changed. -/
def Door.mapLine (l : DoorLine) (f : Rejected → Rejected) (d : Door) : Door :=
  match l with
  | .latch => { d with latch := f d.latch }
  | .leak => { d with leak := f d.leak }

/-- A door's rejected input changed, at a slot number. -/
def mapDoorLine (slot : Nat) (side : Side) (l : DoorLine) (f : Rejected → Rejected) (s : State) : State :=
  match s.slotIndex slot with
  | some k => changeDoor k side (Door.mapLine l f) s
  | none => s

/-- The rejector of a line, as the station keeps it. -/
def mapRejected (l : RejectLine) (f : Rejected → Rejected) (s : State) : State :=
  match l with
  | .latch slot side => mapDoorLine slot side .latch f s
  | .leak slot side => mapDoorLine slot side .leak f s
  | .marker => s.mapCar fun u => { u with marker := f u.marker }
  | .home => s.mapCar fun u => { u with home := f u.home }
  | .stopn => s.mapPanel fun u => { u with stopn := f u.stopn }

/-- The door of a slot number, when the station keeps one. -/
def State.doorAt (s : State) (slot : Nat) (side : Side) : Option Door :=
  match s.slotIndex slot with
  | some k => s.door[k]?.map fun d => d.get side
  | none => none

/-- The rejector of a line that the station reads: its units run, and a slot's line belongs to a slot of the slot count
(R1, R2, R12). -/
def State.rejected (s : State) (l : RejectLine) : Option Rejected :=
  match l with
  | .latch slot side => if s.sectionRuns then (s.doorAt slot side).map (·.latch) else none
  | .leak slot side => if s.sectionRuns then (s.doorAt slot side).map (·.leak) else none
  | .marker => if s.carRuns then some s.car.marker else none
  | .home => if s.carRuns then some s.car.home else none
  | .stopn => if s.running then some s.panel.stopn else none

/-- A line that the pins have: slots 1 to 8. -/
def lineHasPin (l : RejectLine) : Bool :=
  match l with
  | .latch slot _ | .leak slot _ => between 1 8 slot
  | .marker | .home | .stopn => true

/-- A line that names no input of a running station: a section line at a car, or a car line at a section
(R1, R2; log 36). -/
def State.otherRole (s : State) (l : RejectLine) : Bool :=
  match l with
  | .latch _ _ | .leak _ _ => s.carRuns
  | .marker | .home => s.sectionRuns
  | .stopn => false

/-- An input changes level: the pin takes the level, and a line that is read passes it to its rejector. -/
def changeInput (l : RejectLine) (level : Bool) (s : State) : State :=
  if lineHasPin l && !s.otherRole l then
    let s := setLine l level s
    if (s.rejected l).isSome then mapRejected l (Rejected.change s.cfg.noiseReject level) s else s
  else s

/-! ### Accepted changes -/

/-- The deflate order stands for the slot index, and its seal switch level: what a latch closing meets (R154). -/
def latchChange (k : Nat) (slot : Nat) (side : Side) (level : Bool) (s : State) : State :=
  if level then changeDoor k side (Door.latchCloses s.cfg (s.orderStands k) (s.sealLevel slot side)) s
  else changeDoor k side Door.latchOpens s

/-- An accepted change of a leak input: a pulse in the counting direction, nothing in the other (R152, R156). -/
def leakChange (k : Nat) (side : Side) (level : Bool) (s : State) : State :=
  if level = s.cfg.leakFalling then s else changeDoor k side Door.leakPulse s

/-- What the units do at an accepted change (R121, R122, R128, R152, R202). -/
def actOnChange (l : RejectLine) (level : Bool) (s : State) : State :=
  match l with
  | .latch slot side =>
    match s.slotIndex slot with
    | some k => latchChange k slot side level s
    | none => s
  | .leak slot side =>
    match s.slotIndex slot with
    | some k => leakChange k side level s
    | none => s
  | .marker => if level then markerEdge s else s
  | .home => if level then homeAsserted s else s
  | .stopn => if level then offer (.stop .stopPin) s else s

/-- An accepted change as one event: the accepted level, then what the units do. -/
def acceptChange (l : RejectLine) (level : Bool) (s : State) : State :=
  actOnChange l level (mapRejected l (Rejected.accept level) s)

/-- A reject timer runs and the pin still differs from the accepted level. -/
def State.changeDue (s : State) (l : RejectLine) : Bool :=
  match s.rejected l with
  | some r => r.timer.isSome && (s.lineLevel l != r.accepted)
  | none => false

/-! ### Doors -/

/-- A change of one door of a running section as one event. -/
def doorEvent (slot : Nat) (side : Side) (f : State → Door → Door) (s : State) : State :=
  match s.slotIndex slot with
  | some k => if s.sectionRuns then event (fun s => changeDoor k side (f s) s) s else s
  | none => s

/-- A seal switch changes level: the pin takes the level, and the door judges it (R152, R155, R160). -/
def changeSeal (slot : Nat) (side : Side) (level : Bool) (s : State) : State :=
  if between 1 8 slot && !s.carRuns && (s.sealLevel slot side != level) then
    doorEvent slot side (fun s => Door.sealChange s.cfg level) (setInput (sealInput slot side) level s)
  else s

/-! ### Meanings -/

/-- FIELD_INPUT_CHANGE (R121, R152, R202). -/
def execFieldInputChange (l : RejectLine) (level : Bool) (s : State) : Host.Outcome State Fault Refusal :=
  .next (changeInput l level s)

/-- REJECT_TIMER_EXPIRY (R121, R152, R202). -/
def execRejectTimerExpiry (l : RejectLine) (s : State) : Host.Outcome State Fault Refusal :=
  .next (if s.changeDue l then event (acceptChange l (s.lineLevel l)) s else s)

/-- SEAL_SWITCH_CHANGE (R152, R155, R160). -/
def execSealSwitchChange (slot : Nat) (side : Side) (level : Bool) (s : State) : Host.Outcome State Fault Refusal :=
  .next (changeSeal slot side level s)

/-- INFLATE_LIMIT_EXPIRY (R155, R162). -/
def execInflateLimitExpiry (slot : Nat) (side : Side) (s : State) : Host.Outcome State Fault Refusal :=
  .next (doorEvent slot side (fun _ => Door.inflateExpires) s)

/-- LEAK_WINDOW_EXPIRY (R157 to R159). -/
def execLeakWindowExpiry (slot : Nat) (side : Side) (s : State) : Host.Outcome State Fault Refusal :=
  .next (doorEvent slot side (fun s => Door.windowEnds s.cfg) s)

/-- DEFLATE_TIMER_EXPIRY (R161): the seal switch is judged at the entry into INFLATING (R155). -/
def execDeflateTimerExpiry (slot : Nat) (side : Side) (s : State) : Host.Outcome State Fault Refusal :=
  .next (doorEvent slot side (fun s => Door.deflateExpires s.cfg (s.sealLevel slot side)) s)

end Sys2Proof.Machine
end

