-- ==== Sys2Proof/Machine/PressureCommands.lean ====
section
/-! DEFINITION. The commands of the pressure unit (chapter 10). Each acts in a running section station; a timer's
expiry is taken while the timer runs (log 2). -/

namespace Sys2Proof.Machine

/-- A new scan begins with channel 0 and the scan timer restarts (R167). -/
def beginScan (s : State) : State :=
  s.mapPress fun u => { u with converting := some 0, scanTimer := some s.cfg.scanPeriod }

/-- The conversion after channel `c`, if the scan goes on: channels 0 to the slot count (R167). -/
def PressureUnit.nextChannel (u : PressureUnit) (c : Nat) : Option Nat :=
  if c + 1 < u.channels.length then some (c + 1) else none

/-- The conversion in progress completes: the next starts, and the result is posted as one event (R167, R168). -/
def completeConversion (raw : Raw) (s : State) : State :=
  match s.press.converting with
  | some c =>
    event (fun s => postConversion c raw (s.mapPress fun u => { u with converting := u.nextChannel c })) s
  | none => s

/-- The stable timer expires: the main is STABLE and the timer stops (R169). -/
def becomeStable (s : State) : State :=
  s.mapPress fun u => { u with main := { u.main with stable := true, stableTimer := none } }

/-- A settle timer has expired (R175). -/
def settleExpires (k : Nat) (s : State) : State :=
  s.mapPress fun u => { u with dampers := u.dampers.modify k fun d => { d with settle := none } }

/-! ### Meanings -/

/-- SCAN_TIMER_EXPIRY (R167). -/
def execScanTimerExpiry (s : State) : Host.Outcome State Fault Refusal :=
  .next (if s.sectionRuns && s.press.scanTimer.isSome then beginScan s else s)

/-- CONVERSION_COMPLETE (R167 to R170, R175, R176). -/
def execConversionComplete (raw : Raw) (s : State) : Host.Outcome State Fault Refusal :=
  .next (if s.sectionRuns then completeConversion raw s else s)

/-- STABLE_TIMER_EXPIRY (R169). -/
def execStableTimerExpiry (s : State) : Host.Outcome State Fault Refusal :=
  .next (if s.sectionRuns && s.press.main.stableTimer.isSome then event becomeStable s else s)

/-- SETTLE_TIMER_EXPIRY (R175). -/
def execSettleTimerExpiry (slot : Nat) (s : State) : Host.Outcome State Fault Refusal :=
  .next (match s.slotIndex slot with
    | some k => if s.sectionRuns then settleExpires k s else s
    | none => s)

/-- POSITIONER_PERIOD_BOUNDARY (R177). -/
def execPositionerPeriodBoundary (s : State) : Host.Outcome State Fault Refusal :=
  .next (if s.sectionRuns && s.press.boundary.isSome then event applyPositions s else s)

/-- ASPIRATION_EXPIRY (R183). -/
def execAspirationExpiry (oven : Nat) (s : State) : Host.Outcome State Fault Refusal :=
  .next (if s.sectionRuns then event (expireEntry oven) s else s)

/-- LIST_HOLD_EXPIRY (R181). -/
def execListHoldExpiry (s : State) : Host.Outcome State Fault Refusal :=
  .next (if s.sectionRuns then s.mapPress fun u => { u with listHold := none } else s)

end Sys2Proof.Machine
end

