-- ==== Sys2Proof/Machine/CarCommands.lean ====
section
/-! DEFINITION. The commands of the car unit (chapters 7 and 8) and of the store unit's read-back (R189). A timer's expiry
is taken while the timer runs (log 2). -/

namespace Sys2Proof.Machine

/-- An event at a running car station, under a condition. -/
def carEvent (due : Bool) (f : State → State) (s : State) : State := if s.carRuns && due then event f s else s

/-- The hot-travel limit expires: HOT_DELAY, and the limit stops (R144). -/
def hotTravelExpires (s : State) : State := raise .hotDelay (s.mapCar fun u => { u with hotTravel := none })

/-! ### Meanings -/

/-- MARKER_LIMIT_EXPIRY (R126, R127): FAULT with the position as counted. -/
def execMarkerLimitExpiry (s : State) : Host.Outcome State Fault Refusal :=
  .next (carEvent s.car.markerLimit.isSome enterCarFault s)

/-- ACT_DONE becoming asserted (R131 to R135, R147); with no action running it is ignored. -/
def execActDone (s : State) : Host.Outcome State Fault Refusal := .next (carEvent s.car.action.isSome actionDone s)

/-- ACT_FAULT becoming asserted (R131, R134); with no action running it is ignored. -/
def execActFault (s : State) : Host.Outcome State Fault Refusal := .next (carEvent s.car.action.isSome actionFailed s)

/-- ACTION_LIMIT_EXPIRY (R131, R134). -/
def execActionLimitExpiry (s : State) : Host.Outcome State Fault Refusal :=
  .next (carEvent s.car.actionLimit.isSome actionFailed s)

/-- HOT_TRAVEL_LIMIT_EXPIRY (R144). -/
def execHotTravelLimitExpiry (s : State) : Host.Outcome State Fault Refusal :=
  .next (carEvent s.car.hotTravel.isSome hotTravelExpires s)

/-- QUENCH_TIMER_EXPIRY (R145, R149). -/
def execQuenchTimerExpiry (s : State) : Host.Outcome State Fault Refusal :=
  .next (carEvent s.car.quenchTimer.isSome quenchExpires s)

/-- DRAIN_TIMER_EXPIRY (R146, R149). -/
def execDrainTimerExpiry (s : State) : Host.Outcome State Fault Refusal :=
  .next (carEvent s.car.drainTimer.isSome drainExpires s)

/-- STORE_READBACK (R189, R194): taken in every line state but the reset condition, which has no write in progress. -/
def execStoreReadback (isMatch : Bool) (s : State) : Host.Outcome State Fault Refusal := .next (readBack isMatch s)

end Sys2Proof.Machine
end

