-- ==== Sys2Proof/Machine/Payload.lean ====
section
/-! DEFINITION. The bytes of a frame's payload (R20), with the codes they use (R19, R20): of the line, of a stored record
and of a panel read alike. -/

namespace Sys2Proof.Machine

/-! ### Codes, as positions in the lists that define them -/

def roleCode : Role → Nat
  | .ovens => 0
  | .car => 1

def kindCode : CarKind → Nat
  | .pusher => 0
  | .guide => 1
  | .quench => 2

def summaryCode : Summary → Nat
  | .coking => 0
  | .ripe => 1
  | .busy => 2
  | .skip => 3

def carStateCode : CarState → Nat
  | .unhomed => 0
  | .homing => 1
  | .idle => 2
  | .moving => 3
  | .spotted => 4
  | .acting => 5
  | .fault => 6

def quenchCode : QuenchPhase → Nat
  | .empty => 0
  | .receiving => 1
  | .loaded => 2
  | .quenching => 3
  | .draining => 4
  | .discharging => 5

/-! ### Codes of a frame (R19, R20) -/

/-- The kind code (R19). -/
def Frame.code : Frame → Nat
  | .stop _ => 0
  | .resume => 1
  | .abandon _ _ _ => 2
  | .stall _ _ => 3
  | .claim _ _ => 4
  | .assent _ _ _ => 5
  | .decline _ _ _ _ => 6
  | .opening _ _ => 7
  | .spotted _ _ _ => 8
  | .ready _ _ _ => 9
  | .go _ _ => 10
  | .finished _ _ => 11
  | .aspirate _ => 12
  | .aspirateEnd _ => 13
  | .oven _ _ _ => 14
  | .standing _ => 15

/-- The class of a kind code (R19). -/
def classOfCode (code : Nat) : Nat := if code < 4 then 0 else if code < 12 then 1 else if code < 15 then 2 else 3

def originCode : StopOrigin → Nat
  | .stopPin => 0
  | .panel => 1

def abandonCode : AbandonReason → Nat
  | .noAssent => 1
  | .declined => 2
  | .diverged => 3
  | .carLost => 4
  | .notSpotted => 5
  | .doorTimeout => 6
  | .ownerRestart => 7
  | .stalled => 8

def declineCode : DeclineReason → Nat
  | .queueFull => 1
  | .fault => 2
  | .unhomed => 3
  | .stopped => 4
  | .range => 5

/-- Car kind codes of a frame, 1 to 3 (R20). -/
def wireKind (k : CarKind) : Nat := kindCode k + 1

/-- Open phase codes, 0 for no record (R20). -/
def phaseCode : Option Phase → Nat
  | none => 0
  | some p => p.rank + 1

/-! ### Payloads (R17, R20) -/

/-- Ticket and oven. -/
def namesBytes (t : Ticket) (oven : Nat) : List Byte := toBytes 2 t.toNat ++ toBytes 1 oven

/-- A summary word: the summary in the two most significant bits, the minutes in the ten least (R20). -/
def summaryWord (s : Summary) (minutes : Nat) : Nat := 16384 * summaryCode s + minutes

/-- The common part of STANDING, 12 bytes (R20). -/
def commonBytes (role : Role) (c : StandingCommon) : List Byte :=
  toBytes 3 c.lineMinute ++ toBytes 2 c.lastDone.toNat ++ toBytes 2 c.openTicket.toNat ++ toBytes 1 c.openOven
    ++ toBytes 1 (128 * roleCode role + 64 * flagNat c.stopFlag + phaseCode c.openPhase) ++ toBytes 2 c.cursor
    ++ toBytes 1 c.period

/-- A roster entry of a section part (R20). -/
def itemBytes (r : RosterItem) : List Byte := toBytes 1 r.oven ++ toBytes 2 (summaryWord r.summary r.minutes)

/-- The section part or car part (R20). -/
def partBytes : StandingPart → List Byte
  | .ofSection items => toBytes 1 items.length ++ items.flatMap itemBytes
  | .ofCar kind position state quench served =>
    toBytes 1 (wireKind kind) ++ toBytes 1 (position.getD 0)
      ++ toBytes 1 (128 * flagNat served.isSome + 64 * flagNat position.isSome + carStateCode state)
      ++ (match quench with
          | some q => toBytes 1 (quenchCode q)
          | none => [])
      ++ (match served with
          | some t => toBytes 2 t.toNat
          | none => [])

/-- The payload of a frame (R20). -/
def Frame.payload : Frame → List Byte
  | .stop origin => toBytes 1 (originCode origin)
  | .resume => []
  | .abandon t o reason => namesBytes t o ++ toBytes 1 (abandonCode reason)
  | .stall t o => namesBytes t o
  | .claim t o => namesBytes t o
  | .assent t o k => namesBytes t o ++ toBytes 1 (wireKind k)
  | .decline t o k reason => namesBytes t o ++ toBytes 1 (wireKind k) ++ toBytes 1 (declineCode reason)
  | .opening t o => namesBytes t o
  | .spotted t o k => namesBytes t o ++ toBytes 1 (wireKind k)
  | .ready t o k => namesBytes t o ++ toBytes 1 (wireKind k)
  | .go t o => namesBytes t o
  | .finished t o => namesBytes t o
  | .aspirate o => toBytes 1 o
  | .aspirateEnd o => toBytes 1 o
  | .oven o summary minutes => toBytes 1 o ++ toBytes 2 (summaryWord summary minutes)
  | .standing b => commonBytes b.part.role b.common ++ partBytes b.part

end Sys2Proof.Machine
end

