-- ==== Sys2Proof/Machine/Snapshot.lean ====
section
/-! DEFINITION. The data of the panel's reads (R197): each field in the fewest whole bytes of its range, most significant
byte first, codes as positions counted from 0, "none", "unknown", "absent" and a stopped timer as all ones, signed
values in two's complement (R195). The choices the rule leaves open are log 16. -/

namespace Sys2Proof.Machine

/-! ### Fields -/

/-- All ones in `n` bytes. -/
def allOnes (n : Nat) : List Byte := List.replicate n 0xFF#8

/-- A number, or all ones for none. -/
def optBytes (n : Nat) : Option Nat → List Byte
  | some v => toBytes n v
  | none => allOnes n

/-- A flag in one byte: 1 set, 0 clear. -/
def flagByte (b : Bool) : List Byte := toBytes 1 (flagNat b)

/-- A signed value in two bytes. -/
def signedBytes (v : Int) : List Byte := toBytes 2 (v % 65536).toNat

/-- A signed value, or all ones for none. -/
def optSigned : Option Int → List Byte
  | some v => signedBytes v
  | none => allOnes 2

/-- A list field: the count, the entries, and all ones in the places beyond the count. -/
def listBytes (places width : Nat) (entries : List (List Byte)) : List Byte :=
  toBytes 1 entries.length ++ entries.flatten ++ allOnes ((places - entries.length) * width)

/-! ### Codes, as positions in the lists that define them -/

def LineState.code : LineState → Nat
  | .joining => 0
  | .active => 1
  | .withdrawn => 2
  | .haltedDuplicate | .haltedStrap | .haltedConfig | .inReset => 3

def LineState.haltCause : LineState → Option Nat
  | .haltedDuplicate => some 0
  | .haltedStrap => some 1
  | .haltedConfig => some 2
  | .joining | .active | .withdrawn | .inReset => none

/-- The reset cause, of whose three marks R8 sets one, as one byte with that mark's position (log 16). -/
def ResetCause.code : ResetCause → Nat
  | .powerOn => 0
  | .pin => 1
  | .panel => 2

def PeerStanding.code : PeerStanding → Nat
  | .absent => 0
  | .probation => 1
  | .inStanding => 2
  | .lapsed => 3

def RosterState.code : RosterState → Nat
  | .absent => 0
  | .current => 1
  | .stale => 2

def DoorState.code : DoorState → Nat
  | .off => 0
  | .inflating => 1
  | .sealed => 2
  | .leaking => 3
  | .reseating => 4
  | .deflated => 5
  | .fault => 6

def DamperPhase.code : DamperPhase → Nat
  | .closed => 0
  | .aspirate => 1
  | .early => 2
  | .normal => 3

def Action.code : Action → Nat
  | .pull => 0
  | .ram => 1
  | .replace => 2
  | .discharge => 3

def Purpose.code : Purpose → Nat
  | .spot => 0
  | .tower => 1
  | .wharf => 2
  | .park => 3
  | .home => 4

/-! ### READ_STATION -/

/-- The reset cause record (R8). -/
def ResetRecord.bytes (r : ResetRecord) : List Byte :=
  toBytes 1 r.cause.code ++ toBytes 1 (roleCode r.role) ++ toBytes 1 r.station ++ optBytes 1 r.failOffset
    ++ toBytes 1 r.restored ++ toBytes 1 r.bad

/-- READ_STATION's data. The accepted STOPN level reads 1 when asserted, which is the pin low, and 0 otherwise: the model's
choice, since R197 gives a line level no code (log 16). -/
def stationData (s : State) : List Byte :=
  toBytes 1 s.line.state.code ++ optBytes 1 s.line.state.haltCause ++ toBytes 3 s.peer.lineMinute
    ++ toBytes 1 s.peer.seconds ++ toBytes 2 s.ticket.lastDone.toNat ++ flagByte s.ticket.stopFlag
    ++ flagByte s.panel.stopn.accepted ++ s.resetRecord.bytes

/-! ### READ_OVEN, READ_DOORS -/

/-- An oven record and its summary. -/
def ovenData (o : Oven) : List Byte :=
  toBytes 1 o.number ++ toBytes 1 o.state.code ++ flagByte o.held ++ flagByte o.suspect ++ flagByte o.pending
    ++ toBytes 2 o.target ++ toBytes 2 o.remaining ++ toBytes 2 o.gross ++ toBytes 3 o.savedMinute
    ++ toBytes 1 (summaryCode o.summary)

/-- A door record and its line levels: accepted latch, seal switch, accepted leak (R151), each 1 when asserted: the model's
choice of a level's code (log 16). -/
def doorData (sealOn : Bool) (d : Door) : List Byte :=
  toBytes 1 d.state.code ++ toBytes 2 d.leakCount ++ toBytes 1 d.clean ++ toBytes 1 d.attempts ++ optBytes 3 d.window
    ++ optBytes 2 d.inflate ++ optBytes 2 d.deflate ++ flagByte d.latch.accepted ++ flagByte sealOn
    ++ flagByte d.leak.accepted

/-- Both door records of slot index `k`, each followed by its own three levels (log 16). -/
def doorsData (k : Nat) (s : State) : List Byte :=
  match s.door[k]? with
  | some pair =>
    doorData (s.sealLevel (k + 1) .pusherSide) pair.p ++ doorData (s.sealLevel (k + 1) .cokeSide) pair.c
  | none => []

/-! ### READ_PRESSURE -/

/-- A channel (R168). -/
def channelData (c : Channel) : List Byte :=
  toBytes 2 c.raw.toNat ++ signedBytes c.reading ++ flagByte c.valid ++ flagByte c.fault

/-- The main record (R169): reading and validity, captured value, stable timer, stability, LOW. A captured value of
-1 Pa reads as all ones, the same bytes as none: the model's choice, which R197 leaves open (log 16). -/
def mainData (s : State) : List Byte :=
  let c := s.press.channels.getD 0 Channel.reset
  let m := s.press.main
  signedBytes c.reading ++ flagByte c.valid ++ optSigned m.captured ++ optBytes 3 m.stableTimer
    ++ toBytes 1 (if m.stable then 0 else 1) ++ flagByte m.low

/-- A damper record with its setpoint in use (R171, R174). A setpoint in use of -1 Pa reads as all ones, the same bytes as
none in use: the model's choice, which R197 leaves open (log 16). -/
def damperData (setpoint : Option Int) (d : Damper) : List Byte :=
  toBytes 1 d.phase.code ++ optSigned setpoint ++ toBytes 1 d.commanded ++ toBytes 1 d.applied ++ optBytes 2 d.settle

/-- An aspiration slot list entry (R179). -/
def entryData (e : AspirationEntry) : List Byte := toBytes 1 e.oven ++ toBytes 1 e.owner ++ toBytes 3 e.left

/-- READ_PRESSURE's data. -/
def pressureData (s : State) : List Byte :=
  (s.press.channels.map channelData).flatten ++ mainData s
    ++ (s.press.dampers.mapIdx fun k d => damperData (s.setpoint k) d).flatten
    ++ listBytes 3 5 (s.press.entries.map entryData) ++ optBytes 3 s.press.listHold

/-! ### READ_CAR -/

/-- An entry of the move queue (R123). -/
def moveData (m : Move) : List Byte :=
  toBytes 1 m.purpose.code ++ optBytes 2 m.target ++ optBytes 3 (m.ticket.map (·.toNat))

/-- The quench fields of kind QUENCH (R140). -/
def quenchData (u : CarUnit) : List Byte :=
  toBytes 1 (quenchCode u.quench) ++ optBytes 3 u.hotTravel ++ optBytes 3 u.quenchTimer ++ optBytes 3 u.drainTimer

/-- The frames the car unit has waiting to be offered again, in the order of their drops (R120, R130). -/
def State.pendingReoffers (s : State) : List Frame := s.line.dropped.filter fun f => f.names.isSome

/-- A frame that waits: its kind code and its payload, to the longest one's 5 bytes with all ones (R19, R20; log 16). -/
def reofferData (f : Frame) : List Byte :=
  toBytes 1 (Frame.code f) ++ Frame.payload f ++ allOnes (5 - (Frame.payload f).length)

/-- READ_CAR's data: the car record in the order of R120, the move queue, the quench fields for kind QUENCH (R140). The
fields that R120 gives some kinds alone, door held, stall held and quench phase, stand at every kind, and the pending
re-offers in 7 places, one for each kind of frame that R130 names (log 16). -/
def carData (s : State) : List Byte :=
  let u := s.car
  toBytes 1 (kindCode s.cfg.carKind) ++ optBytes 2 u.position ++ toBytes 1 (carStateCode u.state)
    ++ optBytes 1 (u.action.map Action.code) ++ optBytes 3 (u.served.map (·.toNat)) ++ flagByte u.doorHeld
    ++ flagByte u.stallHeld ++ flagByte u.faultDeclined ++ optBytes 2 u.markerLimit ++ optBytes 3 u.actionLimit
    ++ listBytes 7 6 ((s.pendingReoffers.take 7).map reofferData) ++ toBytes 1 (quenchCode u.quench)
    ++ listBytes 4 6 (u.queue.map moveData)
    ++ (if s.cfg.carKind = .quench then quenchData u else [])

/-! ### READ_PEERS, READ_ROSTER -/

/-- A peer entry (section 3.1), 16 bytes. -/
def peerData (p : Peer) : List Byte :=
  toBytes 1 p.standing.code ++ toBytes 1 p.count ++ optBytes 1 (p.role.map roleCode) ++ optBytes 1 (p.kind.map kindCode)
    ++ listBytes 8 1 (p.map.map (toBytes 1)) ++ toBytes 1 p.period ++ optBytes 2 p.silence

/-- READ_PEERS' data: 31 entries in order of station number; the own number's entry is never written and so reads as
ABSENT. -/
def peersData (s : State) : List Byte := (s.peer.table.map peerData).flatten

/-- A roster entry (R52), 5 bytes. -/
def rosterEntryData (e : RosterEntry) : List Byte :=
  toBytes 1 e.state.code ++ toBytes 1 e.owner ++ toBytes 1 (summaryCode e.summary) ++ toBytes 2 e.minutes

/-- READ_ROSTER's data. -/
def rosterData (first count : Nat) (s : State) : List Byte :=
  ((List.range count).map fun i => rosterEntryData (s.rosterAt (first + i))).flatten

/-! ### READ_TICKET -/

/-- A set as the bits of one byte, first member in bit 0. -/
def setByte (members : List Bool) : List Byte :=
  toBytes 1 (members.foldr (fun b acc => flagNat b + 2 * acc) 0)

/-- The served-ticket marks, one for each kind: set once a station of the kind has been marked (R100). -/
def ServedMarks.bytes (x : ServedMarks) : List Byte :=
  setByte [!x.pusher.isEmpty, !x.guide.isEmpty, !x.quench.isEmpty]

/-- A kind set: pusher, guide, quench from bit 0. -/
def KindSet.bytes (x : KindSet) : List Byte := setByte [x.pusher, x.guide, x.quench]

/-- A report set in the order of its names in R86. -/
def ReportSet.bytes (x : ReportSet) : List Byte :=
  setByte [x.pusherSpotted, x.pusherReady, x.guideSpotted, x.guideReady, x.quenchSpotted]

/-- The open-ticket record (R86), all ones when absent; phases count from 0 in the order of their codes. -/
def recordData : Option Record → List Byte
  | none => allOnes 8
  | some r =>
    toBytes 2 r.ticket.toNat ++ toBytes 1 r.oven ++ optBytes 1 r.claimant ++ toBytes 1 r.phase.rank ++ r.assents.bytes
      ++ r.reports.bytes ++ flagByte r.abandonOffered

/-- A claimant's limit: stopped, running or suspended, then its time left. -/
def limitData (n : Nat) : Limit → List Byte
  | .stopped => toBytes 1 0 ++ allOnes n
  | .running left => toBytes 1 1 ++ toBytes n left
  | .suspended left => toBytes 1 2 ++ toBytes n left

/-- The claimant context (R100), all ones when there is none. -/
def contextData : Option Context → List Byte
  | none => allOnes 14
  | some c =>
    limitData 2 c.assent ++ limitData 3 c.spot ++ limitData 3 c.doorOff ++ flagByte c.openOffered
      ++ flagByte c.goOffered ++ c.served.bytes

/-- The outstanding claim (R82), all ones when there is none. -/
def claimData : Option Claim → List Byte
  | none => allOnes 3
  | some c => toBytes 2 c.ticket.toNat ++ toBytes 1 c.oven

/-- READ_TICKET's data. -/
def ticketData (s : State) : List Byte :=
  recordData s.ticket.record ++ toBytes 2 s.ticket.lastDone.toNat ++ flagByte s.ticket.stopFlag
    ++ (if s.resetRecord.role = .ovens then
          toBytes 2 s.sched.cursor ++ optBytes 1 s.candidate ++ claimData s.ticket.claim ++ optBytes 3 s.ticket.pacing
            ++ optBytes 3 s.ticket.backoff ++ contextData s.ticket.context
        else [])

/-! ### READ_COUNTS, READ_EVENTS, CONFIG_READ -/

/-- READ_COUNTS' data. -/
def countsData (c : Counters) : List Byte :=
  toBytes 2 c.rxGood ++ toBytes 2 c.rxBad ++ toBytes 2 c.txDone ++ toBytes 2 c.txRetry ++ toBytes 2 c.txDrop
    ++ toBytes 2 c.lapses

/-- READ_EVENTS' data. -/
def eventsData (u : PanelUnit) : List Byte := toBytes 3 u.events.toNat ++ toBytes 3 u.mask.toNat

/-- A byte of the block as CONFIG_READ finds it: as stored, but a free value in a page that is being written
(R197; log 14). -/
def storedByte (s : State) (i : Nat) : Byte :=
  match s.store.write with
  | some w => if i / 16 = w.page then Config.midWriteByte s.fresh i else Memory.read s.store.array i
  | none => Memory.read s.store.array i

/-- CONFIG_READ's data. -/
def configData (offset count : Nat) (s : State) : List Byte := (List.range count).map fun i => storedByte s (offset + i)

end Sys2Proof.Machine
end

