-- ==== Sys2Proof/Machine/PanelReads.lean ====
section
/-! DEFINITION. How a panel request is judged and answered (R195, R196), and the read requests (R197, R198). -/

namespace Sys2Proof.Machine

/-! ### Answers -/

/-- The transaction's answer, without data (R195). -/
def answer (a : Answer) (s : State) : State := s.mapPanel fun u => { u with reply := some ⟨a, []⟩ }

/-- ACCEPTED with a read's data (R195). -/
def answerData (d : List Byte) (s : State) : State := s.mapPanel fun u => { u with reply := some ⟨.accepted, d⟩ }

/-- The role a request belongs to (R199). -/
inductive Belongs where
  | both
  | only (r : Role)
  deriving DecidableEq, Repr

/-- Whether a request of that belonging is served in a role. -/
def Belongs.serves (b : Belongs) (r : Role) : Bool :=
  match b with
  | .both => true
  | .only x => decide (x = r)

/-- R196, in its order: BUSY while a start sequence has yet to end (no answer at all while RSTN is low, R7), RANGE for a
wrong parameter count, REFUSED in a start halt that does not serve the request, ROLE, then the owning rule. -/
def request (belongs : Belongs) (servedInHalt countOk : Bool) (body : State → State) (s : State) : State :=
  if s.line.state = .inReset then (if s.pins.rstnLow then s else answer .busy s)
  else if countOk = false then answer .range s
  else if s.startHalt && !servedInHalt then answer .refused s
  else if belongs.serves s.resetRecord.role then body s
  else answer .role s

/-- A read served in start halts too. -/
def readAnywhere (data : State → List Byte) (s : State) : State :=
  request .both true true (fun s => answerData (data s) s) s

/-- A read of either role, refused in a start halt (R12). -/
def readRunning (belongs : Belongs) (data : State → List Byte) (s : State) : State :=
  request belongs false true (fun s => answerData (data s) s) s

/-- A request that names an own oven: RANGE for any other (R72, R197). -/
def withOwnOven (oven : Nat) (body : Nat → Oven → State → State) (s : State) : State :=
  match s.slotOf oven with
  | none => answer .range s
  | some k =>
    match s.sched.ovens[k]? with
    | some o => body k o s
    | none => answer .range s

/-- READ_COUNTS takes all six counters and sets them to 0 (R198). -/
def takeCounts (s : State) : State :=
  (answerData (countsData s.line.counters) s).mapLine fun u => { u with counters := .zero }

/-- The ranges of READ_ROSTER (R197). -/
def rosterRangeOk (first count : Nat) : Bool :=
  between 1 120 first && between 1 99 count && decide (first + count - 1 ≤ 120)

/-- The ranges of CONFIG_READ (R197). -/
def configRangeOk (offset count : Nat) : Bool := between 1 96 count && decide (offset + count - 1 ≤ 95)

/-- CONFIG_READ's answer; the count of free values moves on while a write is in progress (log 14). -/
def readBlock (offset count : Nat) (s : State) : State :=
  if configRangeOk offset count then
    let s' := answerData (configData offset count s) s
    if s.store.write.isSome then { s' with fresh := s.fresh + 1 } else s'
  else answer .range s

/-! ### Meanings -/

/-- READ_STATION (R197). -/
def execReadStation (s : State) : Host.Outcome State Fault Refusal := .next (readAnywhere stationData s)

/-- READ_OVEN (R197). -/
def execReadOven (oven : Nat) (s : State) : Host.Outcome State Fault Refusal :=
  .next (request (.only .ovens) false true (withOwnOven oven fun _ o => answerData (ovenData o)) s)

/-- READ_DOORS (R151, R197). -/
def execReadDoors (oven : Nat) (s : State) : Host.Outcome State Fault Refusal :=
  .next (request (.only .ovens) false true (withOwnOven oven fun k _ s => answerData (doorsData k s) s) s)

/-- READ_PRESSURE (R197). -/
def execReadPressure (s : State) : Host.Outcome State Fault Refusal :=
  .next (readRunning (.only .ovens) pressureData s)

/-- READ_CAR (R197). -/
def execReadCar (s : State) : Host.Outcome State Fault Refusal := .next (readRunning (.only .car) carData s)

/-- READ_PEERS (R197). -/
def execReadPeers (s : State) : Host.Outcome State Fault Refusal := .next (readRunning .both peersData s)

/-- READ_ROSTER (R197). -/
def execReadRoster (first count : Nat) (s : State) : Host.Outcome State Fault Refusal :=
  .next (request (.only .ovens) false true
    (fun s => if rosterRangeOk first count then answerData (rosterData first count s) s else answer .range s) s)

/-- READ_TICKET (R197). -/
def execReadTicket (s : State) : Host.Outcome State Fault Refusal := .next (readRunning .both ticketData s)

/-- READ_COUNTS (R32, R198). -/
def execReadCounts (s : State) : Host.Outcome State Fault Refusal := .next (request .both true true takeCounts s)

/-- READ_EVENTS (R197, R198): no flag is cleared. -/
def execReadEvents (s : State) : Host.Outcome State Fault Refusal :=
  .next (readAnywhere (fun s => eventsData s.panel) s)

/-- CONFIG_READ (R4, R197). -/
def execConfigRead (offset count : Nat) (s : State) : Host.Outcome State Fault Refusal :=
  .next (request .both true true (readBlock offset count) s)

end Sys2Proof.Machine
end

