-- ==== Sys2Proof/Machine/PanelRequests.lean ====
section
/-! DEFINITION. The operator requests of the panel port (section 12.3): each is answered and taken whole by the unit that
owns it (R63, R66, R72 to R77, R134, R139, R165, R194, R199 to R203). -/

namespace Sys2Proof.Machine

/-- ACCEPTED, with the request's effects as one event. -/
def accept (f : State → State) (s : State) : State := answer .accepted (event f s)

/-- A request of the section units that names an own oven. -/
def ovenRequest (oven : Nat) (body : Nat → Oven → State → State) (s : State) : State :=
  request (.only .ovens) false true (withOwnOven oven body) s

/-! ### Ovens (section 4.6) -/

/-- CLAIMED or PUSHING. -/
def Oven.inPush (o : Oven) : Bool := (o.state == .claimed) || (o.state == .pushing)

/-- The states that answer HOLD, SET_TARGET, OUT_OF_SERVICE and SET_OVEN with BUSY: CLAIMED, PUSHING, and RIPE with its
claim pending (R67, R73, R74, R76, R77). -/
def Oven.busy (o : Oven) : Bool := o.inPush || ((o.state == .ripe) && o.pending)

/-- A new target: remaining is taken from it and the gross minutes (R73). -/
def Oven.retarget (t : Nat) (o : Oven) : Oven :=
  match o.state with
  | .coking | .ripe =>
    if t ≤ o.gross then { o with target := t, remaining := 0, state := .ripe }
    else { o with target := t, remaining := t - o.gross, state := .coking }
  | .charging | .unknown => { o with target := t, remaining := t }
  | .empty | .outOfService | .claimed | .pushing => { o with target := t }

/-- SET_OVEN to EMPTY; the catch-up of a start join no longer applies (R50, R77). -/
def Oven.setEmpty (o : Oven) : Oven := { o.toEmpty with restored := false }

/-- SET_OVEN to COKING with a minutes remaining (R50, R77). -/
def Oven.setCoking (m : Nat) (o : Oven) : Oven :=
  { o with
    state := if m = 0 then .ripe else .coking
    remaining := m
    gross := o.target - m
    suspect := false
    restored := false }

/-- SET_OVEN's answer and effect (R72, R77). -/
def setOven (state remaining : Nat) (k : Nat) (o : Oven) (s : State) : State :=
  if 1 < state then answer .range s
  else if state = 1 ∧ o.target < remaining then answer .range s
  else if o.busy then answer .busy s
  else if o.state = .unknown then
    accept (changeOvenRipening k (if state = 0 then Oven.setEmpty else Oven.setCoking remaining)) s
  else answer .refused s

/-- OUT_OF_SERVICE's answer and effect (R76). -/
def takeOutOfService (k : Nat) (o : Oven) (s : State) : State :=
  if o.state = .charging then answer .refused s
  else if o.busy then answer .busy s
  else if o.state = .outOfService then answer .accepted s
  else accept (changeOven k Oven.toOutOfService) s

/-- The suspect flag is cleared (R75). -/
def Oven.confirmed (o : Oven) : Oven := { o with suspect := false }

/-! ### Charging (R63, R66) -/

/-- CHARGE_BEGIN's answer, by the first case that applies after the ownership check (R63). -/
def beginCharge (oven : Nat) (k : Nat) (o : Oven) (s : State) : State :=
  if s.line.state ≠ .active then answer .busy s
  else if s.ticket.stopFlag then answer .busy s
  else if s.press.main.low then answer .busy s
  else if o.state ≠ .empty then answer .busy s
  else if s.chargePermit k = false then answer .busy s
  else accept (offer (.aspirate oven)) s

/-- The charge ends: ASPIRATE_END while the list holds the oven, and COKING from the full target (R66). -/
def endCharge (oven : Nat) (k : Nat) (s : State) : State :=
  changeOven k Oven.toCokingFresh (if s.listed oven then offer (.aspirateEnd oven) s else s)

/-- CHARGE_END's answer (R66). -/
def takeChargeEnd (oven : Nat) (k : Nat) (o : Oven) (s : State) : State :=
  if o.inPush then answer .busy s
  else if o.state = .charging then accept (endCharge oven k) s
  else answer .refused s

/-! ### Doors (R165) -/

/-- The sides a RESEAT names. -/
def reseatSides : Nat → List Side
  | 0 => [.pusherSide]
  | 1 => [.cokeSide]
  | 2 => [.pusherSide, .cokeSide]
  | _ => []

/-- Each named door in FAULT becomes INFLATING, its seal switch judged at the entry (R155, R165). -/
def reseatDoors (k : Nat) (sides : List Side) (s : State) : State :=
  sides.foldl (fun s side => changeDoor k side (Door.reseat s.cfg (s.sealLevel (k + 1) side)) s) s

/-- RESEAT's answer and effect (R165). -/
def takeReseat (side : Nat) (k : Nat) (s : State) : State :=
  if 2 < side then answer .range s
  else if (reseatSides side).any fun x => s.doorState k x == .fault then accept (reseatDoors k (reseatSides side)) s
  else answer .refused s

/-! ### Car (R134, R139) -/

/-- CLEAR_CAR's answer and effect (R139, R148). -/
def takeClearCar (s : State) : State :=
  if s.line.state = .haltedDuplicate then answer .refused s
  else if s.car.state = .fault then accept clearCar s
  else answer .refused s

/-- RESOLVE's answer and effect (R134; log 17). -/
def takeResolve (outcome : Nat) (s : State) : State :=
  if 1 < outcome then answer .range s
  else if s.line.state = .haltedDuplicate then answer .refused s
  else if s.cfg.carKind = .pusher ∧ s.car.stallHeld = true then
    accept (if outcome = 0 then resolvePushed else resolveNotPushed) s
  else answer .refused s

/-! ### Stop and resume (R203) -/

/-- BATTERY_STOP's answer and effect. -/
def takeBatteryStop (s : State) : State :=
  if s.line.state = .haltedDuplicate then answer .refused s else accept (offer (.stop .panel)) s

/-- RESUME's answer and effect. -/
def takeResumeRequest (s : State) : State :=
  if s.line.state = .haltedDuplicate then answer .refused s
  else if s.panel.stopn.accepted then answer .refused s
  else accept (offer .resume) s

/-! ### Configuration writes (R194), restart, events -/

/-- HALTED for any cause. -/
def State.halted (s : State) : Bool := s.startHalt || (s.line.state == .haltedDuplicate)

/-- CONFIG_WRITE's answer and effect, the parameter count having passed R196. -/
def takeConfigWrite (offset : Nat) (bytes : List Byte) (s : State) : State :=
  if s.halted = false then answer .refused s
  else if 96 < offset + bytes.length then answer .range s
  else if s.store.write.isSome then answer .busy s
  else answer .accepted (startConfigWrite offset bytes s)

/-- RESTART is ACCEPTED and waits for PCSN (R7, R199). -/
def takeRestart (s : State) : State := answer .accepted (s.mapPanel fun u => { u with restartPending := true })

/-- Three bytes of flags or mask whose four unused bits are clear (R200, R201). -/
def flagsOk (w : BitVec 24) : Bool := decide (w.toNat < 2 ^ 20)

/-- ACK_EVENTS' answer and effect (R200). -/
def takeAck (w : BitVec 24) (s : State) : State :=
  if flagsOk w then answer .accepted (clearFlags (w.setWidth 20) s) else answer .range s

/-- SET_MASK's answer and effect (R201). -/
def takeMask (w : BitVec 24) (s : State) : State :=
  if flagsOk w then answer .accepted (s.mapPanel fun u => { u with mask := w.setWidth 20 }) else answer .range s

/-! ### Meanings -/

/-- HOLD (R74). -/
def execHold (oven : Nat) (s : State) : Host.Outcome State Fault Refusal :=
  .next (ovenRequest oven (fun k o s =>
    if o.busy then answer .busy s else accept (changeOven k fun o => { o with held := true }) s) s)

/-- RELEASE (R74). -/
def execRelease (oven : Nat) (s : State) : Host.Outcome State Fault Refusal :=
  .next (ovenRequest oven (fun k _ => accept (changeOven k fun o => { o with held := false })) s)

/-- SET_TARGET (R73). -/
def execSetTarget (oven target : Nat) (s : State) : Host.Outcome State Fault Refusal :=
  .next (ovenRequest oven (fun k o s =>
    if between 240 2400 target = false then answer .range s
    else if o.busy then answer .busy s
    else accept (changeOvenRipening k (Oven.retarget target)) s) s)

/-- SET_OVEN (R77). -/
def execSetOven (oven state remaining : Nat) (s : State) : Host.Outcome State Fault Refusal :=
  .next (ovenRequest oven (setOven state remaining) s)

/-- OUT_OF_SERVICE (R76). -/
def execOutOfService (oven : Nat) (s : State) : Host.Outcome State Fault Refusal :=
  .next (ovenRequest oven takeOutOfService s)

/-- RETURN_TO_SERVICE (R76). -/
def execReturnToService (oven : Nat) (s : State) : Host.Outcome State Fault Refusal :=
  .next (ovenRequest oven (fun k o s =>
    if o.state = .outOfService then accept (changeOven k Oven.toEmpty) s else answer .refused s) s)

/-- CONFIRM_CLOCK (R72, R75): 0 names every own oven. -/
def execConfirmClock (oven : Nat) (s : State) : Host.Outcome State Fault Refusal :=
  .next (if oven = 0 then
      request (.only .ovens) false true (accept (forSlots fun k => changeOven k Oven.confirmed)) s
    else ovenRequest oven (fun k _ => accept (changeOven k Oven.confirmed)) s)

/-- CHARGE_BEGIN (R63). -/
def execChargeBegin (oven : Nat) (s : State) : Host.Outcome State Fault Refusal :=
  .next (ovenRequest oven (beginCharge oven) s)

/-- CHARGE_END (R66). -/
def execChargeEnd (oven : Nat) (s : State) : Host.Outcome State Fault Refusal :=
  .next (ovenRequest oven (takeChargeEnd oven) s)

/-- RESEAT (R165). -/
def execReseat (oven side : Nat) (s : State) : Host.Outcome State Fault Refusal :=
  .next (ovenRequest oven (fun k _ => takeReseat side k) s)

/-- CLEAR_CAR (R139, R148). -/
def execClearCar (s : State) : Host.Outcome State Fault Refusal :=
  .next (request (.only .car) false true takeClearCar s)

/-- RESOLVE (R134). -/
def execResolve (outcome : Nat) (s : State) : Host.Outcome State Fault Refusal :=
  .next (request (.only .car) false true (takeResolve outcome) s)

/-- BATTERY_STOP (R203). -/
def execBatteryStop (s : State) : Host.Outcome State Fault Refusal := .next (request .both false true takeBatteryStop s)

/-- RESUME, the request (R203). -/
def execResumeRequest (s : State) : Host.Outcome State Fault Refusal :=
  .next (request .both false true takeResumeRequest s)

/-- CONFIG_WRITE (R194, R199): the parameter count is one more than the bytes. -/
def execConfigWrite (offset : Nat) (bytes : List Byte) (s : State) : Host.Outcome State Fault Refusal :=
  .next (request .both true (between 1 16 bytes.length) (takeConfigWrite offset bytes) s)

/-- RESTART (R7, R199). -/
def execRestart (s : State) : Host.Outcome State Fault Refusal := .next (request .both true true takeRestart s)

/-- ACK_EVENTS (R200). -/
def execAckEvents (flags : BitVec 24) (s : State) : Host.Outcome State Fault Refusal :=
  .next (request .both true true (takeAck flags) s)

/-- SET_MASK (R201). -/
def execSetMask (mask : BitVec 24) (s : State) : Host.Outcome State Fault Refusal :=
  .next (request .both true true (takeMask mask) s)

/-- UNKNOWN_REQUEST: a code not of R199, or a wrong parameter count (R196; log 37). -/
def execUnknownRequest (_code _count : Nat) (s : State) : Host.Outcome State Fault Refusal :=
  .next (request .both true false id s)

end Sys2Proof.Machine
end

