-- ==== Sys2Proof/Machine/Pins.lean ====
section
/-! DEFINITION. The output pins as the state drives them: field outputs (R1, R2), positioner outputs (R177), LEN (R14).
NOTICE is `State.notice` (Flags.lean). They are read off the state; no second copy is kept. -/

namespace Sys2Proof.Machine

/-- The lines of one slot of a section: SEALV_P, SEALV_C, ASPV (R1, R151, R178). -/
def State.slotOutput (s : State) (k line : Nat) : Bool :=
  match s.door[k]? with
  | none => false
  | some pair =>
    match line with
    | 0 => pair.p.valve
    | 1 => pair.c.valve
    | _ => s.aspirationValve k

/-- The lines of a car (R2). -/
def State.carOutput (s : State) (i : Nat) : Bool :=
  match i with
  | 0 => s.fwd
  | 1 => s.rev
  | 2 => s.slow
  | 3 => s.actStart
  | 4 => s.actCode % 2 == 1
  | 5 => s.actCode / 2 == 1
  | 6 => s.spray
  | _ => false

/-- Field output O[i]: off unless the units of its role run (R1, R2, R7, R12). -/
def State.output (s : State) (i : Nat) : Bool :=
  if s.sectionRuns then s.slotOutput (i / 3) (i % 3) else if s.carRuns then s.carOutput i else false

/-- POS[slot - 1]: undriven before the first positioner period boundary and in a car; the applied position after it
(R2, R7, R177). -/
def State.positioner (s : State) (slot : Nat) : Option Nat :=
  if s.sectionRuns && s.press.driven then (s.slotIndex slot).map fun k => (s.damper k).applied else none

/-- LEN is active during an attempt (R14, R23). -/
def State.lineEnable (s : State) : Bool := s.line.attempt.isSome

end Sys2Proof.Machine
end

