-- ==== Sys2Proof/Machine/Wire.lean ====
section
/-! DEFINITION. The battery line's bits below the frame commands: payloads read back (R20), the frame layout (R17), the
check (R18), bit stuffing (R16), and the receiver that turns bits into a frame or a fault (R30), with the command each gives.
A bit is true when recessive (1), false when dominant (0). -/

namespace Sys2Proof.Machine

/-! ### Codes and payloads read back (R19, R20) -/

def originOf : Nat → Option StopOrigin
  | 0 => some .stopPin
  | 1 => some .panel
  | _ => none

def abandonOf : Nat → Option AbandonReason
  | 1 => some .noAssent
  | 2 => some .declined
  | 3 => some .diverged
  | 4 => some .carLost
  | 5 => some .notSpotted
  | 6 => some .doorTimeout
  | 7 => some .ownerRestart
  | 8 => some .stalled
  | _ => none

def declineOf : Nat → Option DeclineReason
  | 1 => some .queueFull
  | 2 => some .fault
  | 3 => some .unhomed
  | 4 => some .stopped
  | 5 => some .range
  | _ => none

def wireKindOf : Nat → Option CarKind
  | 1 => some .pusher
  | 2 => some .guide
  | 3 => some .quench
  | _ => none

def summaryOf : Nat → Option Summary
  | 0 => some .coking
  | 1 => some .ripe
  | 2 => some .busy
  | 3 => some .skip
  | _ => none

def phaseOf : Nat → Option (Option Phase)
  | 0 => some none
  | 1 => some (some .claimed)
  | 2 => some (some .assented)
  | 3 => some (some .opened)
  | 4 => some (some .gone)
  | 5 => some (some .stuck)
  | _ => none

def carStateOf : Nat → Option CarState
  | 0 => some .unhomed
  | 1 => some .homing
  | 2 => some .idle
  | 3 => some .moving
  | 4 => some .spotted
  | 5 => some .acting
  | 6 => some .fault
  | _ => none

def quenchOf : Nat → Option QuenchPhase
  | 0 => some .empty
  | 1 => some .receiving
  | 2 => some .loaded
  | 3 => some .quenching
  | 4 => some .draining
  | 5 => some .discharging
  | _ => none

/-- The number of two bytes. -/
def word2 (a b : Byte) : Nat := 256 * a.toNat + b.toNat

/-- The ticket of two bytes. -/
def ticket2 (a b : Byte) : Ticket := BitVec.ofNat 16 (word2 a b)

/-- A summary word read back; its four middle bits are zero (R20). -/
def readSummary (a b : Byte) : Option (Summary × Nat) :=
  let w := word2 a b
  if w / 1024 % 16 = 0 then (summaryOf (w / 16384)).map fun s => (s, w % 1024) else none

/-- The roster entries of a section part. -/
def readItems : Nat → List Byte → Option (List RosterItem)
  | 0, [] => some []
  | n + 1, o :: a :: b :: rest =>
    match readSummary a b, readItems n rest with
    | some (s, m), some items => some (⟨o.toNat, s, m⟩ :: items)
    | _, _ => none
  | _, _ => none

/-- The served ticket at the end of a car part, by its presence bit. -/
def readServed : Bool → List Byte → Option (Option Ticket)
  | false, [] => some none
  | true, [a, b] => some (some (ticket2 a b))
  | _, _ => none

/-- The quench phase, for kind QUENCH only, and the served ticket after it. -/
def readQuench (kind : CarKind) (present : Bool) (rest : List Byte) : Option (Option QuenchPhase × Option Ticket) :=
  if kind = .quench then
    match rest with
    | q :: rest =>
      match quenchOf q.toNat, readServed present rest with
      | some p, some served => some (some p, served)
      | _, _ => none
    | [] => none
  else (readServed present rest).map fun served => (none, served)

/-- A car part. -/
def readCarPart : List Byte → Option StandingPart
  | k :: p :: st :: rest =>
    let w := st.toNat
    let known := w / 64 % 2 == 1
    match wireKindOf k.toNat, carStateOf (w % 64) with
    | some kind, some state =>
      match readQuench kind (w / 128 == 1) rest with
      | some (q, served) =>
        if known then some (.ofCar kind (some p.toNat) state q served)
        else if p = 0 then some (.ofCar kind none state q served)
        else none
      | none => none
    | _, _ => none
  | _ => none

/-- A section part. -/
def readSectionPart : List Byte → Option StandingPart
  | n :: rest => (readItems n.toNat rest).map .ofSection
  | [] => none

/-- A STANDING payload. -/
def readStanding : List Byte → Option Frame
  | m2 :: m1 :: m0 :: d1 :: d0 :: t1 :: t0 :: o :: fl :: c1 :: c0 :: per :: rest =>
    let w := fl.toNat
    match phaseOf (w % 64), (if w / 128 = 1 then readCarPart rest else readSectionPart rest) with
    | some phase, some part =>
      some (.standing
        { common :=
            { lineMinute := 65536 * m2.toNat + word2 m1 m0
              lastDone := ticket2 d1 d0
              openTicket := ticket2 t1 t0
              openOven := o.toNat
              openPhase := phase
              stopFlag := w / 64 % 2 == 1
              cursor := word2 c1 c0
              period := per.toNat }
          part := part })
    | _, _ => none
  | _ => none

/-- A payload's fields before their ranges are checked, by kind code. -/
def readPayload : Nat → List Byte → Option Frame
  | 0, [x] => (originOf x.toNat).map .stop
  | 1, [] => some .resume
  | 2, [a, b, o, r] => (abandonOf r.toNat).map fun r => .abandon (ticket2 a b) o.toNat r
  | 3, [a, b, o] => some (.stall (ticket2 a b) o.toNat)
  | 4, [a, b, o] => some (.claim (ticket2 a b) o.toNat)
  | 5, [a, b, o, k] => (wireKindOf k.toNat).map fun k => .assent (ticket2 a b) o.toNat k
  | 6, [a, b, o, k, r] =>
    match wireKindOf k.toNat, declineOf r.toNat with
    | some k, some r => some (.decline (ticket2 a b) o.toNat k r)
    | _, _ => none
  | 7, [a, b, o] => some (.opening (ticket2 a b) o.toNat)
  | 8, [a, b, o, k] => (wireKindOf k.toNat).map fun k => .spotted (ticket2 a b) o.toNat k
  | 9, [a, b, o, k] => (wireKindOf k.toNat).map fun k => .ready (ticket2 a b) o.toNat k
  | 10, [a, b, o] => some (.go (ticket2 a b) o.toNat)
  | 11, [a, b, o] => some (.finished (ticket2 a b) o.toNat)
  | 12, [o] => some (.aspirate o.toNat)
  | 13, [o] => some (.aspirateEnd o.toNat)
  | 14, [o, a, b] => (readSummary a b).map fun x => .oven o.toNat x.1 x.2
  | 15, bytes => readStanding bytes
  | _, _ => none

/-- A payload that R20 does not refuse. -/
def parsePayload (code : Nat) (bytes : List Byte) : Option Frame :=
  match readPayload code bytes with
  | some f => if f.valid then some f else none
  | none => none

/-- The payload length a kind requires, STANDING's by its contents (R20). -/
def requiredLength (code : Nat) (bytes : List Byte) : Nat :=
  match code with
  | 0 => 1
  | 1 => 0
  | 2 => 4
  | 3 | 4 | 7 | 10 | 11 => 3
  | 5 | 8 | 9 => 4
  | 6 => 5
  | 12 | 13 => 1
  | 14 => 3
  | _ =>
    if (bytes.getD 8 0).toNat / 128 = 1 then
      15 + (if (bytes.getD 12 0).toNat = 3 then 1 else 0) + (if (bytes.getD 14 0).toNat / 128 = 1 then 2 else 0)
    else 13 + 3 * (bytes.getD 12 0).toNat

/-! ### Bits, check and stuffing (R16, R17, R18) -/

/-- The `n` bits of a number, most significant first. -/
def toBits : Nat → Nat → List Bool
  | 0, _ => []
  | n + 1, v => (v / 2 ^ n % 2 == 1) :: toBits n v

/-- The number that bits give, most significant first. -/
def ofBits (bits : List Bool) : Nat := bits.foldl (fun acc b => 2 * acc + flagNat b) 0

/-- The bits of bytes. -/
def byteBits (bytes : List Byte) : List Bool := bytes.flatMap fun b => toBits 8 b.toNat

/-- The bytes of `n` times 8 bits. -/
def bitsBytes : Nat → List Bool → List Byte
  | 0, _ => []
  | n + 1, bits => BitVec.ofNat 8 (ofBits (bits.take 8)) :: bitsBytes n (bits.drop 8)

/-- One bit taken into the check register (R18). -/
def crcBit (r : BitVec 16) (b : Bool) : BitVec 16 := if r.msb = b then r <<< 1 else (r <<< 1) ^^^ 0x1021#16

/-- The check of header and payload bits (R18). -/
def crc16 (bits : List Bool) : BitVec 16 := bits.foldl crcBit 0xFFFF#16

/-- Stuffing after a run of `run` bits of a level (R16). -/
def stuffFrom : Bool → Nat → List Bool → List Bool
  | _, _, [] => []
  | level, run, b :: rest =>
    if (if b = level then run + 1 else 1) = 5 then b :: (!b) :: stuffFrom (!b) 1 rest
    else b :: stuffFrom b (if b = level then run + 1 else 1) rest

/-- Stuffing of a whole span, which opens with the start bit (R16). -/
def stuff (bits : List Bool) : List Bool := stuffFrom true 0 bits

/-- Header bits: class, source, kind, length (R17). -/
def headerBits (src : Nat) (f : Frame) : List Bool :=
  toBits 2 f.cls ++ toBits 5 src ++ toBits 4 (Frame.code f) ++ toBits 6 (Frame.payload f).length

/-- Header and payload bits, over which the check runs (R18). -/
def checkedBits (src : Nat) (f : Frame) : List Bool := headerBits src f ++ byteBits (Frame.payload f)

/-- The bits of a frame on the line: start bit, header, payload and check stuffed, then seven recessive bits (R17). -/
def frameBits (src : Nat) (f : Frame) : List Bool :=
  stuff (false :: (checkedBits src f ++ toBits 16 (crc16 (checkedBits src f)).toNat)) ++ List.replicate 7 true

/-! ### The receiver (R30) -/

/-- A part of the stuffed span taken off the line. -/
inductive Span where
  | bits (taken : List Bool) (level : Bool) (run : Nat) (rest : List Bool)
  | stuffFault
  | short
  deriving DecidableEq, Repr

/-- A bit put before what was taken. -/
def Span.cons (b : Bool) : Span → Span
  | .bits taken level run rest => .bits (b :: taken) level run rest
  | .stuffFault => .stuffFault
  | .short => .short

/-- Takes `n` bits of the stuffed span, removing stuff bits (R16). -/
def takeBits : Nat → Bool → Nat → List Bool → Span
  | 0, level, run, rest => .bits [] level run rest
  | _ + 1, _, _, [] => .short
  | n + 1, level, run, b :: rest =>
    if (if b = level then run + 1 else 1) = 5 then
      match rest with
      | [] => .short
      | c :: rest => if c = b then .stuffFault else Span.cons b (takeBits n c 1 rest)
    else Span.cons b (takeBits n b (if b = level then run + 1 else 1) rest)

/-- What the receiver makes of the bits from a start bit on. -/
inductive Received where
  | frame (src : Nat) (f : Frame)
  | fault (f : RxFault)
  | unfinished
  deriving DecidableEq, Repr

/-- The end field, seven recessive bits, before what the whole frame amounts to (R17, R30). -/
def endField (whole : Received) (bits : List Bool) : Received :=
  if (bits.take 7).all id then (if bits.length < 7 then .unfinished else whole) else .fault .form

/-- A frame read whole: its payload's length and contents, and its check, are judged (R30, R31). -/
def receiveWhole (src code : Nat) (payload : List Byte) (checked check : List Bool) : Received :=
  if payload.length ≠ requiredLength code payload then .fault .length
  else
    match parsePayload code payload with
    | none => .fault .form
    | some f => if ofBits check = (crc16 checked).toNat then .frame src f else .fault .check

/-- The length of the kinds whose code fixes it: every kind but STANDING (R20). -/
def fixedLength (code : Nat) : Option Nat := if code < 15 then some (requiredLength code []) else none

/-- A frame whose header has been taken: class, source and length faults end reception here, the others once the frame
has been read whole (R30). -/
def receiveHeader (header : List Bool) (level : Bool) (run : Nat) (rest : List Bool) : Received :=
  let cls := ofBits (header.take 2)
  let src := ofBits ((header.drop 2).take 5)
  let code := ofBits ((header.drop 7).take 4)
  let len := ofBits (header.drop 11)
  if cls ≠ classOfCode code ∨ src = 0 then .fault .form
  else if 48 < len ∨ (fixedLength code).any (fun n => n != len) then .fault .length
  else
    match takeBits (8 * len + 16) level run rest with
    | .stuffFault => .fault .stuff
    | .short => .unfinished
    | .bits body _ _ rest =>
      endField
        (receiveWhole src code (bitsBytes len body) (header ++ body.take (8 * len)) (body.drop (8 * len))) rest

/-- The receiver from a start bit on (R15, R16, R30). -/
def receiveBits (bits : List Bool) : Received :=
  match takeBits 18 true 0 bits with
  | .stuffFault => .fault .stuff
  | .short => .unfinished
  | .bits taken level run rest => receiveHeader taken.tail level run rest

/-! ### The command a reception gives -/

/-- The frame command of a frame from a station (R31). -/
def Frame.command (src : Nat) : Frame → Instr
  | .stop origin => .stopFrame src origin
  | .resume => .resumeFrame src
  | .abandon t o reason => .abandonFrame src t o reason
  | .stall t o => .stallFrame src t o
  | .claim t o => .claimFrame src t o
  | .assent t o k => .assentFrame src t o k
  | .decline t o k reason => .declineFrame src t o k reason
  | .opening t o => .openFrame src t o
  | .spotted t o k => .spottedFrame src t o k
  | .ready t o k => .readyFrame src t o k
  | .go t o => .goFrame src t o
  | .finished t o => .doneFrame src t o
  | .aspirate o => .aspirateFrame src o
  | .aspirateEnd o => .aspirateEndFrame src o
  | .oven o summary minutes => .ovenFrame src o summary minutes
  | .standing b => .standingFrame src b

/-- The command a whole reception gives: a frame command or RECEIVE_FAULT (R30, R31). -/
def Received.command : Received → Option Instr
  | .frame src f => some (Frame.command src f)
  | .fault f => some (.receiveFault f)
  | .unfinished => none

end Sys2Proof.Machine
end

