-- ==== Sys2Proof/Machine/Dispatch.lean ====
section
/-! DEFINITION. One arm per command. -/

namespace Sys2Proof.Machine

def exec (i : Instr) (s : State) : Host.Outcome State Fault Refusal :=
  match i with
  | .powerOnReset rstnHeldLow => Sys2Proof.Machine.execPowerOnReset rstnHeldLow s
  | .rstnLow => Sys2Proof.Machine.execRstnLow s
  | .startSequence roleHigh stn => Sys2Proof.Machine.execStartSequence roleHigh stn s
  | .restartReset => Sys2Proof.Machine.execRestartReset s
  | .attemptStart => Sys2Proof.Machine.execAttemptStart s
  | .arbitrationLost => Sys2Proof.Machine.execArbitrationLost s
  | .transmitError => Sys2Proof.Machine.execTransmitError s
  | .attemptComplete => Sys2Proof.Machine.execAttemptComplete s
  | .receiveFault f => Sys2Proof.Machine.execReceiveFault f s
  | .withdrawTimerExpiry => Sys2Proof.Machine.execWithdrawTimerExpiry s
  | .stopFrame src origin => Sys2Proof.Machine.execStopFrame src origin s
  | .resumeFrame src => Sys2Proof.Machine.execResumeFrame src s
  | .abandonFrame src ticket oven reason => Sys2Proof.Machine.execAbandonFrame src ticket oven reason s
  | .stallFrame src ticket oven => Sys2Proof.Machine.execStallFrame src ticket oven s
  | .claimFrame src ticket oven => Sys2Proof.Machine.execClaimFrame src ticket oven s
  | .assentFrame src ticket oven kind => Sys2Proof.Machine.execAssentFrame src ticket oven kind s
  | .declineFrame src ticket oven kind reason => Sys2Proof.Machine.execDeclineFrame src ticket oven kind reason s
  | .openFrame src ticket oven => Sys2Proof.Machine.execOpenFrame src ticket oven s
  | .spottedFrame src ticket oven kind => Sys2Proof.Machine.execSpottedFrame src ticket oven kind s
  | .readyFrame src ticket oven kind => Sys2Proof.Machine.execReadyFrame src ticket oven kind s
  | .goFrame src ticket oven => Sys2Proof.Machine.execGoFrame src ticket oven s
  | .doneFrame src ticket oven => Sys2Proof.Machine.execDoneFrame src ticket oven s
  | .aspirateFrame src oven => Sys2Proof.Machine.execAspirateFrame src oven s
  | .aspirateEndFrame src oven => Sys2Proof.Machine.execAspirateEndFrame src oven s
  | .ovenFrame src oven summary minutes => Sys2Proof.Machine.execOvenFrame src oven summary minutes s
  | .standingFrame src body => Sys2Proof.Machine.execStandingFrame src body s
  | .silenceTimerExpiry station => Sys2Proof.Machine.execSilenceTimerExpiry station s
  | .standingPeriodExpiry => Sys2Proof.Machine.execStandingPeriodExpiry s
  | .joinWindowExpiry => Sys2Proof.Machine.execJoinWindowExpiry s
  | .lineMinuteAdvance => Sys2Proof.Machine.execLineMinuteAdvance s
  | .pacingTimerExpiry => Sys2Proof.Machine.execPacingTimerExpiry s
  | .claimBackoffExpiry => Sys2Proof.Machine.execClaimBackoffExpiry s
  | .assentLimitExpiry => Sys2Proof.Machine.execAssentLimitExpiry s
  | .spotLimitExpiry => Sys2Proof.Machine.execSpotLimitExpiry s
  | .doorOffLimitExpiry => Sys2Proof.Machine.execDoorOffLimitExpiry s
  | .fieldInputChange line level => Sys2Proof.Machine.execFieldInputChange line level s
  | .rejectTimerExpiry line => Sys2Proof.Machine.execRejectTimerExpiry line s
  | .sealSwitchChange slot side level => Sys2Proof.Machine.execSealSwitchChange slot side level s
  | .inflateLimitExpiry slot side => Sys2Proof.Machine.execInflateLimitExpiry slot side s
  | .leakWindowExpiry slot side => Sys2Proof.Machine.execLeakWindowExpiry slot side s
  | .deflateTimerExpiry slot side => Sys2Proof.Machine.execDeflateTimerExpiry slot side s
  | .scanTimerExpiry => Sys2Proof.Machine.execScanTimerExpiry s
  | .conversionComplete raw => Sys2Proof.Machine.execConversionComplete raw s
  | .stableTimerExpiry => Sys2Proof.Machine.execStableTimerExpiry s
  | .settleTimerExpiry slot => Sys2Proof.Machine.execSettleTimerExpiry slot s
  | .positionerPeriodBoundary => Sys2Proof.Machine.execPositionerPeriodBoundary s
  | .aspirationExpiry oven => Sys2Proof.Machine.execAspirationExpiry oven s
  | .listHoldExpiry => Sys2Proof.Machine.execListHoldExpiry s
  | .markerLimitExpiry => Sys2Proof.Machine.execMarkerLimitExpiry s
  | .actDone => Sys2Proof.Machine.execActDone s
  | .actFault => Sys2Proof.Machine.execActFault s
  | .actionLimitExpiry => Sys2Proof.Machine.execActionLimitExpiry s
  | .hotTravelLimitExpiry => Sys2Proof.Machine.execHotTravelLimitExpiry s
  | .quenchTimerExpiry => Sys2Proof.Machine.execQuenchTimerExpiry s
  | .drainTimerExpiry => Sys2Proof.Machine.execDrainTimerExpiry s
  | .storeReadback isMatch => Sys2Proof.Machine.execStoreReadback isMatch s
  | .readStation => Sys2Proof.Machine.execReadStation s
  | .readOven oven => Sys2Proof.Machine.execReadOven oven s
  | .readDoors oven => Sys2Proof.Machine.execReadDoors oven s
  | .readPressure => Sys2Proof.Machine.execReadPressure s
  | .readCar => Sys2Proof.Machine.execReadCar s
  | .readPeers => Sys2Proof.Machine.execReadPeers s
  | .readRoster first count => Sys2Proof.Machine.execReadRoster first count s
  | .readTicket => Sys2Proof.Machine.execReadTicket s
  | .readCounts => Sys2Proof.Machine.execReadCounts s
  | .readEvents => Sys2Proof.Machine.execReadEvents s
  | .configRead offset count => Sys2Proof.Machine.execConfigRead offset count s
  | .hold oven => Sys2Proof.Machine.execHold oven s
  | .release oven => Sys2Proof.Machine.execRelease oven s
  | .setTarget oven target => Sys2Proof.Machine.execSetTarget oven target s
  | .setOven oven state remaining => Sys2Proof.Machine.execSetOven oven state remaining s
  | .outOfService oven => Sys2Proof.Machine.execOutOfService oven s
  | .returnToService oven => Sys2Proof.Machine.execReturnToService oven s
  | .confirmClock oven => Sys2Proof.Machine.execConfirmClock oven s
  | .chargeBegin oven => Sys2Proof.Machine.execChargeBegin oven s
  | .chargeEnd oven => Sys2Proof.Machine.execChargeEnd oven s
  | .reseat oven side => Sys2Proof.Machine.execReseat oven side s
  | .clearCar => Sys2Proof.Machine.execClearCar s
  | .resolve outcome => Sys2Proof.Machine.execResolve outcome s
  | .batteryStop => Sys2Proof.Machine.execBatteryStop s
  | .resumeRequest => Sys2Proof.Machine.execResumeRequest s
  | .configWrite offset bytes => Sys2Proof.Machine.execConfigWrite offset bytes s
  | .restart => Sys2Proof.Machine.execRestart s
  | .ackEvents flags => Sys2Proof.Machine.execAckEvents flags s
  | .setMask mask => Sys2Proof.Machine.execSetMask mask s
  | .unknownRequest code count => Sys2Proof.Machine.execUnknownRequest code count s

end Sys2Proof.Machine
end

