-- ==== Sys2Proof/Machine/Run.lean ====
section
/-! DEFINITION. Commands carried out at once, one after another, as the bits of the line and the edges of the panel port
give them (log 6, log 31). The waiting commands stand meanwhile. -/

namespace Sys2Proof.Machine

/-- What follows a next state; a stop stands. -/
def andThen (o : Host.Outcome State Fault Refusal) (f : State → Host.Outcome State Fault Refusal) :
    Host.Outcome State Fault Refusal :=
  match o with
  | .next s => f s
  | .fault r => .fault r
  | .refused r => .refused r

/-- Commands in their order, each at the state the one before it leaves. -/
def runAll : List Instr → State → Host.Outcome State Fault Refusal
  | [], s => .next s
  | c :: rest, s => andThen (exec c s) (runAll rest)

end Sys2Proof.Machine
end

