-- ==== Sys2Proof/Machine/LineBits.lean ====
section
/-! DEFINITION. The line below the commands, one bit time after another (R14, R15, R21, R25, R26, R30): the level on
LTX, the idle count, start bits, the compare of each bit read with the bit sent, and the commands that the bits read
amount to, which are carried out in the bit time that ends them (log 6). A bit is true when recessive. -/

namespace Sys2Proof.Machine

/-! ### The level on LTX -/

/-- How many bits of the frame under way have been read. -/
def Listener.count (l : Listener) : Nat := (l.taking.getD []).length

/-- The bits of the attempt in progress (R17, R23). -/
def State.attemptBits (s : State) : List Bool :=
  match s.line.attempt with
  | some a => frameBits s.own a.frame
  | none => []

/-- The level of LTX in the present bit time: the bit to send while an attempt is in progress, recessive at every other
time, in a reset and in a start halt too (R7, R12, R14, R33). -/
def State.ltx (s : State) : Bool := s.attemptBits.getD s.line.listener.count true

/-! ### Idle count and reception (R15, R30) -/

/-- The idle count after a bit: it starts again at a dominant bit, and 12 recessive bits make the line idle. -/
def nextIdle (b : Bool) (n : Nat) : Nat := if b then min Config.idleBits (n + 1) else 0

/-- The line is idle. -/
def Listener.isIdle (l : Listener) : Bool := l.idle == Config.idleBits

/-- What the bits of a frame read so far amount to: nothing yet, or the command that ends its reception. -/
def takenBits (bits : List Bool) : List Instr := (receiveBits bits).command.toList

/-- A bit read by a station that sends nothing: a dominant bit on an idle line is the start bit of a frame, every other
bit outside a frame only counts; a frame under way goes on until it is received or found at fault. -/
def Listener.receive (b : Bool) (l : Listener) : Listener × List Instr :=
  match l.taking with
  | none => (⟨nextIdle b l.idle, if l.isIdle && !b then some [b] else none⟩, [])
  | some bits =>
    (⟨nextIdle b l.idle, if (takenBits (bits ++ [b])).isEmpty then some (bits ++ [b]) else none⟩, takenBits (bits ++ [b]))

/-! ### The compare of each bit (R14, R21, R25, R26) -/

/-- Which bits on the line are stuff bits, after a run of `run` bits of a level (R16). -/
def stuffMarks : Bool → Nat → List Bool → List Bool
  | _, _, [] => []
  | level, run, b :: rest =>
    if (if b = level then run + 1 else 1) = 5 then false :: true :: stuffMarks (!b) 1 rest
    else false :: stuffMarks b (if b = level then run + 1 else 1) rest

/-- Bit `n` on the line, the start bit being bit 0, belongs to the arbitration field: the seven bits of class and source
after the start bit (R21), a stuff bit among them not. -/
def inArbitration (src : Nat) (f : Frame) (n : Nat) : Bool :=
  n != 0 && ((stuffMarks true 0 (false :: (headerBits src f).take 7))[n]? == some false)

/-- A bit read in the station's own attempt on a frame: as sent, the attempt goes on or with its last bit completes, and
the own frame comes next in the receive stream (R25; log 5); recessive sent and dominant read in the arbitration field,
it is lost (R21); any other difference is a transmit error (R26). Lost or at fault, the station reads on as a receiver,
also where the start bit itself was read recessive and the idle count stands at 12 (log 41). -/
def Listener.compare (src : Nat) (f : Frame) (b : Bool) (l : Listener) : Listener × List Instr :=
  let bits := l.taking.getD [] ++ [b]
  let sent := (frameBits src f).getD l.count true
  if b = sent then
    if bits.length = (frameBits src f).length then (⟨nextIdle b l.idle, none⟩, [.attemptComplete, Frame.command src f])
    else (⟨nextIdle b l.idle, some bits⟩, [])
  else
    (⟨nextIdle b l.idle, if (takenBits bits).isEmpty then some bits else none⟩,
      (if sent && inArbitration src f l.count then .arbitrationLost else .transmitError) :: takenBits bits)

/-! ### One bit time -/

/-- A frame may be begun: ACTIVE, an idle line, no frame under way and one to send (R15, R23). -/
def State.mayBegin (s : State) : Bool :=
  (s.line.state == .active) && s.line.attempt.isNone && s.line.nextToSend.isSome && s.line.listener.isIdle
    && s.line.listener.taking.isNone

/-- What the station makes of a bit read: the listener after it, and the commands the bits amount to. -/
def State.hears (s : State) (b : Bool) : Listener × List Instr :=
  match s.line.attempt with
  | some a => s.line.listener.compare s.own a.frame b
  | none => s.line.listener.receive b

/-- One bit time: the station reads a bit, the commands it amounts to are carried out, and a frame is begun where it may
be (R15, R23). A station in reset or in a start halt does not read the line (R7, R12, R14). -/
def State.readBit (b : Bool) (s : State) : Host.Outcome State Fault Refusal :=
  if s.running then
    andThen (runAll (s.hears b).2 (s.mapLine fun u => { u with listener := (s.hears b).1 })) fun t =>
      if t.mayBegin then exec .attemptStart t else .next t
  else .next s

/-- Bit times one after another. -/
def State.readBits : List Bool → State → Host.Outcome State Fault Refusal
  | [], s => .next s
  | b :: rest, s => andThen (s.readBit b) (State.readBits rest)

end Sys2Proof.Machine
end

