-- ==== Sys2Proof/Machine/Transaction.lean ====
section
/-! DEFINITION. The panel port below the commands, edge after edge (R195, R199): the request that the bytes shifted in
make, the bytes of a request, the bytes of an answer, and a transaction from PCSN active to PCSN inactive, with PSDI
sampled and PSDO changed at the edges of PSCK (log 31). -/

namespace Sys2Proof.Machine

/-! ### Requests as bytes (R199) -/

/-- The command of a request code and its parameter bytes: a code or a count that R199 does not give is an unknown
request (R196, R199). -/
def requestOf (code : Nat) (params : List Byte) : Instr :=
  match code, params with
  | 1, [] => .readStation
  | 2, [o] => .readOven o.toNat
  | 3, [o] => .readDoors o.toNat
  | 4, [] => .readPressure
  | 5, [] => .readCar
  | 6, [] => .readPeers
  | 7, [first, count] => .readRoster first.toNat count.toNat
  | 8, [] => .readTicket
  | 9, [] => .readCounts
  | 10, [] => .readEvents
  | 11, [offset, count] => .configRead offset.toNat count.toNat
  | 16, [o] => .hold o.toNat
  | 17, [o] => .release o.toNat
  | 18, [o, t1, t0] => .setTarget o.toNat (ofBytes [t1, t0])
  | 19, [o, st, m1, m0] => .setOven o.toNat st.toNat (ofBytes [m1, m0])
  | 20, [o] => .outOfService o.toNat
  | 21, [o] => .returnToService o.toNat
  | 22, [o] => .confirmClock o.toNat
  | 23, [o] => .chargeBegin o.toNat
  | 24, [o] => .chargeEnd o.toNat
  | 25, [o, side] => .reseat o.toNat side.toNat
  | 26, [] => .clearCar
  | 27, [outcome] => .resolve outcome.toNat
  | 28, [] => .batteryStop
  | 29, [] => .resumeRequest
  | 30, offset :: b :: bytes =>
    if bytes.length < 16 then .configWrite offset.toNat (b :: bytes) else .unknownRequest 30 (bytes.length + 2)
  | 31, [] => .restart
  | 32, [w2, w1, w0] => .ackEvents (BitVec.ofNat 24 (ofBytes [w2, w1, w0]))
  | 33, [w2, w1, w0] => .setMask (BitVec.ofNat 24 (ofBytes [w2, w1, w0]))
  | _, _ => .unknownRequest code params.length

/-- The code and the parameter bytes of a request; an unknown one is given zero bytes. -/
def requestParts : Instr → Option (Nat × List Byte)
  | .readStation => some (1, [])
  | .readOven o => some (2, toBytes 1 o)
  | .readDoors o => some (3, toBytes 1 o)
  | .readPressure => some (4, [])
  | .readCar => some (5, [])
  | .readPeers => some (6, [])
  | .readRoster first count => some (7, toBytes 1 first ++ toBytes 1 count)
  | .readTicket => some (8, [])
  | .readCounts => some (9, [])
  | .readEvents => some (10, [])
  | .configRead offset count => some (11, toBytes 1 offset ++ toBytes 1 count)
  | .hold o => some (16, toBytes 1 o)
  | .release o => some (17, toBytes 1 o)
  | .setTarget o target => some (18, toBytes 1 o ++ toBytes 2 target)
  | .setOven o st remaining => some (19, toBytes 1 o ++ toBytes 1 st ++ toBytes 2 remaining)
  | .outOfService o => some (20, toBytes 1 o)
  | .returnToService o => some (21, toBytes 1 o)
  | .confirmClock o => some (22, toBytes 1 o)
  | .chargeBegin o => some (23, toBytes 1 o)
  | .chargeEnd o => some (24, toBytes 1 o)
  | .reseat o side => some (25, toBytes 1 o ++ toBytes 1 side)
  | .clearCar => some (26, [])
  | .resolve outcome => some (27, toBytes 1 outcome)
  | .batteryStop => some (28, [])
  | .resumeRequest => some (29, [])
  | .configWrite offset bytes => some (30, toBytes 1 offset ++ bytes)
  | .restart => some (31, [])
  | .ackEvents w => some (32, toBytes 3 w.toNat)
  | .setMask w => some (33, toBytes 3 w.toNat)
  | .unknownRequest code count => some (code, List.replicate count 0)
  | _ => none

/-- The bytes 0 to n + 1 by which the host gives a request: code, parameter count, parameters (R195). -/
def requestBytes (c : Instr) : Option (List Byte) :=
  (requestParts c).map fun x => toBytes 1 x.1 ++ toBytes 1 x.2.length ++ x.2

/-- The request that the bytes shifted in have just made: it is taken with byte n + 1, and bytes after it make none
(R195). -/
def takenRequest : List Byte → Option Instr
  | code :: n :: params => if params.length = n.toNat then some (requestOf code.toNat params) else none
  | _ => none

/-! ### Answers as bytes (R195) -/

/-- The answer byte. -/
def Answer.code : Answer → Nat
  | .accepted => 0
  | .busy => 1
  | .refused => 2
  | .range => 3
  | .role => 4

/-- The bytes from byte n + 2 on: the answer, the data length in two bytes, the data. -/
def Reply.bytes (r : Reply) : List Byte := toBytes 1 r.answer.code ++ toBytes 2 r.data.length ++ r.data

/-- Byte `k` of a transaction on PSDO: 0 during bytes 0 to n + 1 and after the last data byte, the answer and its data
between them (R195). -/
def Reply.byteAt (n : Nat) (r : Reply) (k : Nat) : Byte := if k ≤ n + 1 then 0 else r.bytes.getD (k - (n + 2)) 0

/-- Bit `k` of a transaction on PSDO, each byte's most significant bit first (R195). -/
def Reply.bitAt (n : Nat) (r : Reply) (k : Nat) : Bool := (r.byteAt n (k / 8)).getMsbD (k % 8)

/-! ### A transaction -/

/-- The whole bytes among the bits sampled. -/
def Transaction.bytes (t : Transaction) : List Byte := bitsBytes (t.bits.length / 8) t.bits

/-- The request whose last bit has just been sampled (R195). -/
def Transaction.request (t : Transaction) : Option Instr := if t.bits.length % 8 = 0 then takenRequest t.bytes else none

/-- The level of PSDO; it is undriven while PCSN is inactive, and after a reset until PCSN is activated again (R7, R195). -/
def State.psdo (s : State) : Option Bool :=
  s.panel.transaction.map fun t =>
    match t.bytes, s.panel.reply with
    | _ :: n :: _, some r => r.bitAt n.toNat t.shown
    | _, _ => false

/-- PCSN becomes active: a transaction starts afresh; a station held in reset starts none (R7, R195). -/
def State.selectPanel (s : State) : State :=
  if s.line.state = .inReset ∧ s.pins.rstnLow = true then s
  else s.mapPanel fun u => { u with transaction := some ⟨[], 0⟩, reply := none }

/-- PSCK rises: PSDI is sampled, and with the last bit of byte n + 1 the request is taken, in that one event; the bits
after it are ignored, and so is every edge outside a transaction (R195). -/
def State.psckRise (psdi : Bool) (s : State) : Host.Outcome State Fault Refusal :=
  match s.panel.transaction with
  | none => .next s
  | some t =>
    runAll (Transaction.request { t with bits := t.bits ++ [psdi] }).toList
      (s.mapPanel fun u => { u with transaction := some { t with bits := t.bits ++ [psdi] } })

/-- PSCK falls: PSDO goes on to the bit after those sampled (R195). -/
def State.psckFall (s : State) : State :=
  s.mapPanel fun u => { u with transaction := u.transaction.map fun t => { t with shown := t.bits.length } }

/-- Bits clocked in one after another, each by a rising and a falling edge of PSCK. -/
def State.clockIn : List Bool → State → Host.Outcome State Fault Refusal
  | [], s => .next s
  | b :: rest, s => andThen (s.psckRise b) fun t => State.clockIn rest t.psckFall

/-- PCSN becomes inactive: a request not yet taken is abandoned, an answer not yet shifted out is lost, and a RESTART
that has been taken resets the station at once (R7, R195, R199). -/
def State.deselectPanel (s : State) : Host.Outcome State Fault Refusal :=
  exec .restartReset (s.mapPanel fun u => { u with transaction := none, reply := none })

end Sys2Proof.Machine
end

