-- ==== Sys2Proof/WellFormed.lean ====
section
/-! DEFINITION. Which commands a sender can give: station numbers of five bits, slots and ovens of the part, payloads of
R20, and panel parameters of the byte counts of R199. `step` takes ill-formed commands too (log 8). -/

namespace Sys2Proof

/-- A number in a range. -/
def within (lo hi n : Nat) : Bool := decide (lo ≤ n) && decide (n ≤ hi)

/-- A frame another receiver would find valid, from a station number 1 to 31 (R17, R20). -/
def frameOk (src : Nat) (f : Frame) : Bool := within 1 31 src && f.valid

/-- A rejected line of slots 1 to 8 (R1, R2). -/
def lineOk : RejectLine → Bool
  | .latch slot _ => within 1 8 slot
  | .leak slot _ => within 1 8 slot
  | .marker => true
  | .home => true
  | .stopn => true

/-- One byte. -/
def byteOk (n : Nat) : Bool := within 0 255 n

/-- Two bytes. -/
def wordOk (n : Nat) : Bool := within 0 65535 n

/-- Whether a request code takes a parameter count (R199). -/
def requestTakes (code count : Nat) : Bool :=
  match code with
  | 1 | 4 | 5 | 6 | 8 | 9 | 10 => count == 0
  | 2 | 3 => count == 1
  | 7 | 11 => count == 2
  | 16 | 17 | 20 | 21 | 22 | 23 | 24 | 27 => count == 1
  | 18 => count == 3
  | 19 => count == 4
  | 25 => count == 2
  | 26 | 28 | 29 | 31 => count == 0
  | 30 => within 2 17 count
  | 32 | 33 => count == 3
  | _ => false

/-- The commands a sender can give. -/
def Instr.wf : Instr → Bool
  | .powerOnReset _ => true
  | .rstnLow => true
  | .startSequence _ stn => within 0 31 stn
  | .restartReset => true
  | .attemptStart => true
  | .arbitrationLost => true
  | .transmitError => true
  | .attemptComplete => true
  | .receiveFault _ => true
  | .withdrawTimerExpiry => true
  | .stopFrame src origin => frameOk src (.stop origin)
  | .resumeFrame src => frameOk src .resume
  | .abandonFrame src t o reason => frameOk src (.abandon t o reason)
  | .stallFrame src t o => frameOk src (.stall t o)
  | .claimFrame src t o => frameOk src (.claim t o)
  | .assentFrame src t o k => frameOk src (.assent t o k)
  | .declineFrame src t o k reason => frameOk src (.decline t o k reason)
  | .openFrame src t o => frameOk src (.opening t o)
  | .spottedFrame src t o k => frameOk src (.spotted t o k)
  | .readyFrame src t o k => frameOk src (.ready t o k)
  | .goFrame src t o => frameOk src (.go t o)
  | .doneFrame src t o => frameOk src (.finished t o)
  | .aspirateFrame src o => frameOk src (.aspirate o)
  | .aspirateEndFrame src o => frameOk src (.aspirateEnd o)
  | .ovenFrame src o summary minutes => frameOk src (.oven o summary minutes)
  | .standingFrame src body => frameOk src (.standing body)
  | .silenceTimerExpiry station => within 1 31 station
  | .standingPeriodExpiry => true
  | .joinWindowExpiry => true
  | .lineMinuteAdvance => true
  | .pacingTimerExpiry => true
  | .claimBackoffExpiry => true
  | .assentLimitExpiry => true
  | .spotLimitExpiry => true
  | .doorOffLimitExpiry => true
  | .fieldInputChange line _ => lineOk line
  | .rejectTimerExpiry line => lineOk line
  | .sealSwitchChange slot _ _ => within 1 8 slot
  | .inflateLimitExpiry slot _ => within 1 8 slot
  | .leakWindowExpiry slot _ => within 1 8 slot
  | .deflateTimerExpiry slot _ => within 1 8 slot
  | .scanTimerExpiry => true
  | .conversionComplete _ => true
  | .stableTimerExpiry => true
  | .settleTimerExpiry slot => within 1 8 slot
  | .positionerPeriodBoundary => true
  | .aspirationExpiry oven => within 1 120 oven
  | .listHoldExpiry => true
  | .markerLimitExpiry => true
  | .actDone => true
  | .actFault => true
  | .actionLimitExpiry => true
  | .hotTravelLimitExpiry => true
  | .quenchTimerExpiry => true
  | .drainTimerExpiry => true
  | .storeReadback _ => true
  | .readStation => true
  | .readOven oven => byteOk oven
  | .readDoors oven => byteOk oven
  | .readPressure => true
  | .readCar => true
  | .readPeers => true
  | .readRoster first count => byteOk first && byteOk count
  | .readTicket => true
  | .readCounts => true
  | .readEvents => true
  | .configRead offset count => byteOk offset && byteOk count
  | .hold oven => byteOk oven
  | .release oven => byteOk oven
  | .setTarget oven target => byteOk oven && wordOk target
  | .setOven oven state remaining => byteOk oven && byteOk state && wordOk remaining
  | .outOfService oven => byteOk oven
  | .returnToService oven => byteOk oven
  | .confirmClock oven => byteOk oven
  | .chargeBegin oven => byteOk oven
  | .chargeEnd oven => byteOk oven
  | .reseat oven side => byteOk oven && byteOk side
  | .clearCar => true
  | .resolve outcome => byteOk outcome
  | .batteryStop => true
  | .resumeRequest => true
  | .configWrite offset bytes => byteOk offset && within 1 16 bytes.length
  | .restart => true
  | .ackEvents _ => true
  | .setMask _ => true
  | .unknownRequest code count => byteOk code && within 0 255 count && !requestTakes code count

end Sys2Proof
end

