-- ==== Sys2Proof/Safety.lean ====
section
/-! DEFINITION. The words the statements are made of: what it is for a command to complete, the effect of a command
before the judgements that end its event, a frame handed to the units, what an arrival and every reset leave, which
commands may change what, and the invariants. -/

namespace Sys2Proof.Machine

/-! ### Completion -/

/-- The command completes: `exec` answers a next state, and `P` holds of it. -/
def Completes (c : Instr) (s : State) (P : State → Prop) : Prop := ∃ t, exec c s = .next t ∧ P t

/-- The command completes as one event (log 9): its own effects make `t`, of which `P` holds, and the next state is `t`
with the judgements that end the event. `finish` is stated by itself. -/
def Effects (c : Instr) (s : State) (P : State → Prop) : Prop := ∃ t, exec c s = .next (finish s t) ∧ P t

/-- The store array reads as before at every address. -/
def sameArray (s t : State) : Prop := ∀ a, Memory.read t.store.array a = Memory.read s.store.array a

/-- Everything but the line unit, and the flags, is as before. -/
def sameButLine (s t : State) : Prop :=
  t.pending = s.pending ∧ t.pins = s.pins ∧ t.resetRecord = s.resetRecord ∧ t.cfg = s.cfg ∧ t.fresh = s.fresh ∧
  t.peer = s.peer ∧ t.ticket = s.ticket ∧ t.sched = s.sched ∧ t.door = s.door ∧ t.press = s.press ∧ t.car = s.car ∧
  t.store = s.store ∧ t.panel.mask = s.panel.mask ∧ t.panel.stopn = s.panel.stopn ∧ t.panel.reply = s.panel.reply ∧
  t.panel.restartPending = s.panel.restartPending ∧ t.panel.transaction = s.panel.transaction

/-- The ticket values stand: record, last-done, stop flag and cursor. -/
def samePush (s t : State) : Prop :=
  t.ticket.record = s.ticket.record ∧ t.ticket.lastDone = s.ticket.lastDone ∧
  t.ticket.stopFlag = s.ticket.stopFlag ∧ t.sched.cursor = s.sched.cursor

/-- The request is accepted: its own effects make `t`, of which `P` holds, and the next state is `t` with the judgements
that end the event and the answer ACCEPTED. -/
def Accepts (c : Instr) (s : State) (P : State → Prop) : Prop :=
  ∃ t, exec c s = .next (answer .accepted (finish s t)) ∧ P t

/-- The request is answered, and nothing else changes. -/
def Answers (c : Instr) (s : State) (a : Answer) (data : List Byte) : Prop :=
  exec c s = .next { s with panel := { s.panel with reply := some ⟨a, data⟩ } }

/-- The command changes nothing. -/
def Ignored (c : Instr) (s : State) : Prop := exec c s = .next s

/-! ### What a command may change -/

/-- Only the door unit and the flags differ. -/
def onlyDoors (s t : State) : Prop := t = { s with door := t.door, panel := { s.panel with events := t.panel.events } }

/-- Only the pressure unit and the flags differ. -/
def onlyPress (s t : State) : Prop := t = { s with press := t.press, panel := { s.panel with events := t.panel.events } }

/-- Only the ovens, the store requests of the event and the flags differ. -/
def onlyOvens (s t : State) : Prop :=
  t = { s with
    sched := { s.sched with ovens := t.sched.ovens }
    store := { s.store with wanted := t.store.wanted }
    panel := { s.panel with events := t.panel.events } }

/-- Only the car unit, the line unit, the store requests of the event and the flags differ. -/
def onlyCar (s t : State) : Prop :=
  t = { s with
    car := t.car
    line := t.line
    store := { s.store with wanted := t.store.wanted }
    panel := { s.panel with events := t.panel.events } }

/-- Flags set before stay set, and only the named one may be newly set. -/
def onlyFlag (e : EventFlag) (s t : State) : Prop :=
  t.flag e = true ∧ ∀ x, x ≠ e → t.flag x = s.flag x

/-- A frame joins the tail of its class, given a line state that takes it and room in the queue. -/
def queues (f : Frame) (s t : State) : Prop :=
  s.onLine = true → (s.line.queue f.cls).length < classCapacity f.cls →
    t.line.queue f.cls = s.line.queue f.cls ++ [⟨f, 0, false⟩]

/-- What the drop of a frame leaves waiting to be offered again, behind the frames that wait already (log 19): a car's
frames (R130), a section's ABANDON while its record stands before GONE with its mark set (R86), and the STOP of the STOPN
pin, which waits once (R202). No other frame waits. -/
def keptAtDrop (f : Frame) (s t : State) : Prop :=
  let waits : Prop := t.line.dropped = s.line.dropped ++ [f]
  let isLost : Prop := t.line.dropped = s.line.dropped
  (s.resetRecord.role = .car → f.names.isSome = true → (∀ tk o, f ≠ .claim tk o ∧ f ≠ .opening tk o ∧ f ≠ .go tk o) →
    waits) ∧
  (∀ tk o why, s.resetRecord.role = .ovens → f = .abandon tk o why →
    let stands : Prop := ∃ r, s.ticket.record = some r ∧ r.ticket = tk ∧ r.oven = o ∧ r.phase.beforeGone = true ∧
      r.abandonOffered = true
    (stands → waits) ∧ (¬stands → isLost)) ∧
  (f = .stop .stopPin → (f ∈ s.line.dropped → isLost) ∧ (f ∉ s.line.dropped → waits)) ∧
  ((∃ tk o, f = .claim tk o ∨ f = .opening tk o ∨ f = .go tk o) ∨ f = .stop .panel ∨ f = .resume ∨
    (∃ o, f = .aspirate o ∨ f = .aspirateEnd o) ∨ (∃ o x m, f = .oven o x m) ∨ (∃ b, f = .standing b) → isLost)

/-! ### Frames -/

/-- A frame from a station is handed to the units (R25, R31, R39): the station is in JOINING, ACTIVE or WITHDRAWN, the
frame is valid, and it is the own frame returning or a peer's that passes the standing gate. -/
def State.handsOn (s : State) (src : Nat) (f : Frame) : Bool :=
  s.onLine && f.valid && between 1 31 src && (if src = s.own then s.returning f else s.gatePasses src f)

/-! ### The record's oven -/

/-- An own oven of the record takes a state with no minutes remaining, its held and suspect flags and gross minutes kept,
and asks for its record to be written where the state is another; any other oven leaves the schedule unit as it is
(R62, R68). -/
def ovenTakes (oven : Nat) (st : OvenState) (s t : State) : Prop :=
  (s.resetRecord.role ≠ .ovens ∨ s.slotOf oven = none → t.sched = s.sched) ∧
  ∀ k o, s.resetRecord.role = .ovens → s.slotOf oven = some k → s.sched.ovens[k]? = some o →
    t.sched = { s.sched with ovens := s.sched.ovens.set k { o with state := st, remaining := 0 } } ∧
    (o.state ≠ st → RecordId.ovenOf k ∈ t.store.wanted)

/-! ### Closing a record -/

/-- An own oven named by a record that closes as done is EMPTY with no minutes and its suspect flag clear, what else it
holds kept, its claim-pending flag apart, and asks for its record to be written where it was in another state
(R62, R70). -/
def ovenEmptied (oven : Nat) (s t : State) : Prop :=
  ∀ k o, s.resetRecord.role = .ovens → s.slotOf oven = some k → s.sched.ovens[k]? = some o →
    (∃ pending, t.sched.ovens[k]? = some
      { o with state := .empty, remaining := 0, gross := 0, suspect := false, pending := pending }) ∧
    (o.state ≠ .empty → RecordId.ovenOf k ∈ t.store.wanted)

/-- An own oven named by a record that closes without being done: before GONE it is RIPE with no minutes remaining and the
claim backoff runs, after GONE it is OUT_OF_SERVICE with no minutes and its suspect flag clear; what else it holds is kept,
its claim-pending flag apart, and its record is asked for where it was in another state (R62, R71). -/
def ovenNotDone (r : Record) (s t : State) : Prop :=
  ∀ k o, s.resetRecord.role = .ovens → s.slotOf r.oven = some k → s.sched.ovens[k]? = some o →
    (r.phase.beforeGone = true →
      t.ticket.backoff = some (1000 * s.cfg.claimBackoff) ∧
      (∃ pending, t.sched.ovens[k]? = some { o with state := .ripe, remaining := 0, pending := pending }) ∧
      (o.state ≠ .ripe → RecordId.ovenOf k ∈ t.store.wanted)) ∧
    (r.phase.beforeGone = false →
      (∃ pending, t.sched.ovens[k]? = some
        { o with state := .outOfService, remaining := 0, gross := 0, suspect := false, pending := pending }) ∧
      (o.state ≠ .outOfService → RecordId.ovenOf k ∈ t.store.wanted))

/-- A peer's STANDING is its departure from standing: it was IN_STANDING and reports another role or kind (R36, R38). -/
def departs (src : Nat) (b : Standing) (s : State) : Prop :=
  (s.peerAt src).standing = .inStanding ∧
  ((s.peerAt src).role ≠ some b.part.role ∨ (s.peerAt src).kind ≠ b.part.kind)

/-- The departure of a station closes the record: it is the record's claimant, and the record is before GONE (R96). -/
def claimantLost (n : Nat) (r : Record) : Prop := r.claimant = some n ∧ r.phase.beforeGone = true

/-! ### The car -/

/-- The car is IDLE with the entries `rest` queued; with none and away from the park marker it queues PARK (R125). -/
def idles (rest : List Move) (position : Nat) (s t : State) : Prop :=
  t.car.state = .idle ∧ (rest ≠ [] → t.car.queue = rest) ∧
  (rest = [] → t.car.queue =
    if position = s.cfg.parkMarker then [] else [⟨.park, some s.cfg.parkMarker, none⟩])

/-- The move queue `q` after a TOWER, WHARF or HOME entry has joined it at the head, behind an entry in progress; at a full
queue the tail entry has been removed first (R123). -/
def joinedAtHead (m : Move) (inProgress : Bool) (q : List Move) : List Move :=
  let room : List Move := if q.length < 4 then q else q.dropLast
  if inProgress then room.take 1 ++ m :: room.drop 1 else m :: room

/-- A TOWER, WHARF or HOME entry has joined the move queue. DECLINE(QUEUE_FULL) is offered where the entry removed for it
is a SPOT entry of the served ticket, whose record is before GONE, and nothing is offered otherwise (R123). -/
def joinsHead (m : Move) (s t : State) : Prop :=
  let removed (r : Record) : Prop :=
    4 ≤ s.car.queue.length ∧ s.servedRecord = some r ∧ r.phase.beforeGone = true ∧
    ∃ x, s.car.queue.getLast? = some x ∧ x.purpose = .spot ∧ x.ticket = some r.ticket
  t.car.queue = joinedAtHead m s.car.inProgress s.car.queue ∧ t.car.served = s.car.served ∧
  (∀ r, removed r → queues (.decline r.ticket r.oven s.cfg.carKind .queueFull) s t) ∧
  ((∀ r, ¬removed r) → t.line = s.line)

/-- What the arrival of the move `m` at a marker leaves, `rest` being queued behind it: by its purpose, and by the quench
phase of a quench car (R125, R128, R141, R144, R145, R147). -/
def arrived (m : Move) (rest : List Move) (position : Nat) (s t : State) : Prop :=
  t.car.position = some position ∧ t.car.inProgress = false ∧ t.car.markerLimit = none ∧
  t.car.served = s.car.served ∧ t.car.doorHeld = s.car.doorHeld ∧
  (m.purpose = .spot →
    let serves : Prop := m.ticket ≠ none ∧ m.ticket = s.car.served
    let free : Prop := s.cfg.carKind ≠ .quench ∨ s.car.quench = .empty
    (serves → free → t.car.state = .spotted ∧ t.car.queue = rest ∧ (s.servedRecord = none → t.line = s.line) ∧
      ∀ r, s.servedRecord = some r → queues (.spotted r.ticket r.oven s.cfg.carKind) s t) ∧
    (serves → ¬free → t.car.state = .idle ∧ t.car.queue = rest ++ [m] ∧ t.line = s.line) ∧
    (¬serves → idles rest position s t ∧ t.line = s.line)) ∧
  (m.purpose = .park ∨ m.purpose = .home → idles rest position s t ∧ t.line = s.line) ∧
  (m.purpose = .tower → t.car.hotTravel = none ∧ t.line = s.line ∧
    (s.car.quench = .loaded → t.car.state = .acting ∧ t.car.action = none ∧ t.car.queue = rest ∧
      t.car.quench = .quenching ∧ t.car.quenchTimer = some (1000 * s.cfg.quenchTime)) ∧
    (s.car.quench ≠ .loaded → idles rest position s t ∧ t.car.quench = s.car.quench)) ∧
  (m.purpose = .wharf → t.line = s.line ∧
    (s.car.quench = .draining ∨ s.car.quench = .discharging →
      t.car.state = .acting ∧ t.car.queue = rest ∧ t.car.quench = .discharging) ∧
    (s.car.quench ≠ .draining → s.car.quench ≠ .discharging → idles rest position s t ∧ t.car.quench = s.car.quench))

/-- What the closing of the record of a ticket leaves at a car that serves it: entries and queued answers for the ticket
gone, no served ticket; a car SPOTTED with no door held is IDLE; a quench car goes by its phase, a RECEIVING one LOADED
with TOWER at the head of its queue (R135, R143). -/
def carClosed (ticket : Ticket) (s t : State) : Prop :=
  let stays (m : Move) : Bool := m.ticket != some ticket
  let kept : List Move :=
    if s.car.inProgress then
      ((s.car.queue.take 1).map fun m => if m.ticket = some ticket then { m with ticket := none } else m) ++
        (s.car.queue.drop 1).filter stays
    else s.car.queue.filter stays
  let waits : Prop := t.car.state = s.car.state ∧ t.car.queue = kept
  let rests : Prop := t.car.state = .idle ∧ (kept ≠ [] → t.car.queue = kept) ∧
    ∀ p, kept = [] → s.car.position = some p → idles [] p s t
  t.car.served = none ∧ t.car.actionServes = false ∧ t.car.faultDeclined = false ∧ t.car.action = s.car.action ∧
  t.car.actionLimit = s.car.actionLimit ∧ t.car.doorHeld = s.car.doorHeld ∧ t.car.stallHeld = s.car.stallHeld ∧
  t.car.position = s.car.position ∧
  (s.line.attempt = none → ∀ q ∈ t.line.q1, Frame.answersTicket ticket q.frame = false) ∧
  (s.cfg.carKind ≠ .quench → t.car.quench = s.car.quench ∧
    (s.car.state = .spotted → s.car.doorHeld = false → rests) ∧
    (s.car.state ≠ .spotted ∨ s.car.doorHeld = true → waits)) ∧
  (s.cfg.carKind = .quench →
    (s.car.quench = .receiving → t.car.quench = .loaded ∧ t.car.state = .idle ∧
      t.car.hotTravel = some (1000 * s.cfg.hotTravelLimit) ∧
      t.car.queue = joinedAtHead ⟨.tower, some s.cfg.towerMarker, none⟩ s.car.inProgress kept) ∧
    (s.car.quench ≠ .receiving → t.car.quench = s.car.quench) ∧
    (s.car.quench = .empty → s.car.state = .spotted → rests) ∧
    (s.car.quench ≠ .receiving → s.car.quench ≠ .empty ∨ s.car.state ≠ .spotted → waits))

/-! ### Resets -/

/-- What every reset leaves of a station that was in `s` (R7, R8, R200, R201), the array apart. -/
def afterReset (cause : ResetCause) (rstnLow : Bool) (s t : State) : Prop :=
  t.pending = s.pending ∧ t.pins = { s.pins with rstnLow := rstnLow } ∧
  t.resetRecord = { cause := cause, role := .ovens, station := 0, failOffset := none, restored := 0, bad := 0 } ∧
  t.cfg = Cfg.blank ∧ t.line = LineUnit.reset ∧ t.peer = PeerUnit.reset ∧ t.ticket = TicketUnit.reset ∧
  t.sched = SchedUnit.reset ∧ t.door = [] ∧ t.press = PressureUnit.reset ∧ t.car = CarUnit.reset ∧
  t.store.queue = [] ∧ t.store.write = none ∧ t.panel = PanelUnit.reset

/-- The array after a reset: as it stood, but for the page of a write the reset cut off (R191). -/
def arrayAcrossReset (s t : State) : Prop :=
  match s.store.write with
  | none => sameArray s t
  | some w =>
    ∀ a, a < 16 * w.page ∨ 16 * w.page + 16 ≤ a → Memory.read t.store.array a = Memory.read s.store.array a

/-! ### Which commands may change what -/

end Sys2Proof.Machine

namespace Sys2Proof

/-- The commands that reset the station or start it. -/
def Instr.starts : Instr → Bool
  | .powerOnReset _ | .rstnLow | .startSequence _ _ | .restartReset => true
  | _ => false

/-- The commands that are frames of the line. -/
def Instr.isFrame : Instr → Bool
  | .stopFrame _ _ | .resumeFrame _ | .abandonFrame _ _ _ _ | .stallFrame _ _ _ | .claimFrame _ _ _
  | .assentFrame _ _ _ _ | .declineFrame _ _ _ _ _ | .openFrame _ _ _ | .spottedFrame _ _ _ _ | .readyFrame _ _ _ _
  | .goFrame _ _ _ | .doneFrame _ _ _ | .aspirateFrame _ _ | .aspirateEndFrame _ _ | .ovenFrame _ _ _ _
  | .standingFrame _ _ => true
  | _ => false

/-- For a panel request: the role it belongs to, whether a start halt serves it (R12), and whether its code and parameter
count are among those of R199. -/
def Instr.asked : Instr → Option (Machine.Belongs × Bool × Bool)
  | .readStation | .readCounts | .readEvents | .configRead _ _ | .restart | .ackEvents _ | .setMask _ =>
    some (.both, true, true)
  | .configWrite _ bytes => some (.both, true, Machine.between 1 16 bytes.length)
  | .readPeers | .readTicket | .batteryStop | .resumeRequest => some (.both, false, true)
  | .readOven _ | .readDoors _ | .readPressure | .readRoster _ _ | .hold _ | .release _ | .setTarget _ _
  | .setOven _ _ _ | .outOfService _ | .returnToService _ | .confirmClock _ | .chargeBegin _ | .chargeEnd _
  | .reseat _ _ => some (.only .ovens, false, true)
  | .readCar | .clearCar | .resolve _ => some (.only .car, false, true)
  | .unknownRequest _ _ => some (.both, true, false)
  | _ => none

/-- The commands after which the line state may be another (R28, R29, R33, R46). -/
def Instr.movesLine (c : Instr) : Bool :=
  c.starts || c.isFrame || (match c with
    | .transmitError | .withdrawTimerExpiry | .joinWindowExpiry => true
    | _ => false)

/-- The commands after which the last-done ticket or the cursor may be another (R79, R92 to R94, R49). -/
def Instr.movesSeries (c : Instr) : Bool :=
  c.starts || (match c with
    | .doneFrame _ _ _ | .standingFrame _ _ | .joinWindowExpiry => true
    | _ => false)

/-- The commands after which the stop flag may be another (R48, R98). -/
def Instr.movesStop (c : Instr) : Bool :=
  c.starts || (match c with
    | .stopFrame _ _ | .resumeFrame _ | .standingFrame _ _ => true
    | _ => false)

/-- The commands after which the line minute may be another (R43, R44, R45). -/
def Instr.movesMinute (c : Instr) : Bool :=
  c.starts || (match c with
    | .lineMinuteAdvance | .standingFrame _ _ => true
    | _ => false)

end Sys2Proof

namespace Sys2Proof.Machine

/-! ### Invariants -/

/-- The store array is in its canonical form (R185). -/
def State.arrayOk (s : State) : Prop := Memory.wf s.store.array = true

/-- No transmit queue holds more than its class allows, and every queued frame stands in the queue of its class (R19,
R22). -/
def State.queuesOk (s : State) : Prop :=
  s.line.q0.length ≤ 4 ∧ s.line.q1.length ≤ 8 ∧ s.line.q2.length ≤ 8 ∧ s.line.q3.length ≤ 1 ∧
  ∀ c, c < 4 → ∀ q ∈ s.line.queue c, q.frame.cls = c

/-- The aspiration slot list holds no more than the limit and no oven twice; before a start it is empty (R179). -/
def State.aspirationOk (s : State) : Prop :=
  s.press.entries.length ≤ s.cfg.aspirationLimit ∧ (s.press.entries.map (·.oven)).Nodup ∧
  (s.line.state = .inReset → s.press.entries = [])

/-- The move queue holds at most 4 entries (R123). -/
def State.moveQueueOk (s : State) : Prop := s.car.queue.length ≤ 4

/-- The store queue holds no record twice, and only records there are (R188). -/
def State.storeQueueOk (s : State) : Prop := s.store.queue.Nodup ∧ ∀ r ∈ s.store.queue, r ∈ recordOrder

/-- A record names a ticket exactly one later than last-done; before a start there is none (R86). -/
def State.recordOk (s : State) : Prop :=
  (∀ r, s.ticket.record = some r → r.ticket = s.ticket.lastDone + 1) ∧
  (s.line.state = .inReset → s.ticket.record = none)

/-- Every oven's target is in its range and its counts agree with the table of counts by state (R56). -/
def State.ovensOk (s : State) : Prop :=
  ∀ o ∈ s.sched.ovens, between 240 2400 o.target = true ∧ countsAgree o.state o.target o.remaining o.gross = true

/-- An aspiration valve is on only while its oven is CHARGING, no isolate order stands and the list holds the oven as
owned by the station (R178); a station whose section units do not run keeps no damper. -/
def State.valvesOk (s : State) : Prop :=
  (s.sectionRuns = false → s.press.dampers = []) ∧
  ∀ k, s.aspirationValve k = true →
    s.orderStands k = false ∧ ∃ o, s.sched.ovens[k]? = some o ∧ o.state = .charging ∧ s.ownEntry o.number = true

/-- A car in FAULT drives nothing, runs no action and has no move in progress (R127). -/
def State.carFaultOk (s : State) : Prop :=
  s.car.state = .fault →
    s.car.action = none ∧ s.car.markerLimit = none ∧ s.car.actionLimit = none ∧ s.car.inProgress = false

/-- The timers of a door run in the states that list them, and its counts keep their ranges (R151, R156). -/
def Door.ok (d : Door) : Prop :=
  (d.window.isSome = true ↔ d.state = .sealed ∨ d.state = .leaking) ∧
  (d.inflate.isSome = true ↔ d.state = .inflating) ∧ (d.deflate.isSome = true ↔ d.state = .reseating) ∧
  d.leakCount ≤ 1023 ∧ (d.leakCount ≠ 0 → d.state = .sealed ∨ d.state = .leaking) ∧
  (d.clean ≠ 0 → d.state = .leaking)

/-- Every door record is in order. -/
def State.doorsOk (s : State) : Prop := ∀ pair ∈ s.door, Door.ok pair.p ∧ Door.ok pair.c

/-- The six link counters stay in 0 to 65535 (R32), the line minute in 0 to 16777215 (R44). -/
def State.countsOk (s : State) : Prop :=
  s.line.counters.rxGood ≤ 65535 ∧ s.line.counters.rxBad ≤ 65535 ∧ s.line.counters.txDone ≤ 65535 ∧
  s.line.counters.txRetry ≤ 65535 ∧ s.line.counters.txDrop ≤ 65535 ∧ s.line.counters.lapses ≤ 65535 ∧
  s.peer.lineMinute ≤ 16777215

/-- The peer table holds 31 entries and the roster 120. -/
def State.tablesOk (s : State) : Prop := s.peer.table.length = 31 ∧ s.sched.roster.length = 120

end Sys2Proof.Machine
end

