-- ==== Sys2Proof/Certificates/Slice0/Obligations.lean ====
section
/-! DEFINITION. The statements for the provers, each a rule of the spec or a property of the machine. -/

open Sys2Proof Sys2Proof.Machine

/-! ### The machine -/

/-- A step on a waiting command runs exactly that command on the state with the rest of the queue. -/
def Obligations.StepRunsTheFrontCommand : Prop :=
  ∀ (c : Instr) (rest : List Instr) (s : State), s.pending = c :: rest → step s = exec c { s with pending := rest }

/-- On an empty queue a step is one millisecond (the model's choice, log 1): every running timer of every unit counts down
by 1 and not below 0, a suspended limit keeps its time left, the seconds time base counts up to its 60th second while the
units run, and nothing else changes: no count, state, queue, flag or answer. -/
def Obligations.IdleStepIsOneMillisecond : Prop :=
  ∀ s : State, s.pending = [] →
    let down (t : Timer) : Timer := t.map (· - 1)
    let limit (l : Limit) : Limit :=
      match l with
      | .stopped => .stopped
      | .running left => .running (left - 1)
      | .suspended left => .suspended left
    let input (r : Rejected) : Rejected := ⟨r.accepted, down r.timer⟩
    let door (d : Door) : Door := { d with
      window := down d.window
      inflate := down d.inflate
      deflate := down d.deflate
      latch := input d.latch
      leak := input d.leak }
    step s = .next { s with
      line := { s.line with withdrawTimer := down s.line.withdrawTimer }
      peer := { s.peer with
        table := s.peer.table.map fun p => { p with silence := down p.silence }
        timeBaseMs := if s.running then min 60000 (s.peer.timeBaseMs + 1) else s.peer.timeBaseMs
        standingTimer := down s.peer.standingTimer
        joinTimer := down s.peer.joinTimer }
      ticket := { s.ticket with
        pacing := down s.ticket.pacing
        backoff := down s.ticket.backoff
        context := s.ticket.context.map fun c =>
          { c with assent := limit c.assent, spot := limit c.spot, doorOff := limit c.doorOff } }
      door := s.door.map fun pair => ⟨door pair.p, door pair.c⟩
      press := { s.press with
        scanTimer := down s.press.scanTimer
        main := { s.press.main with stableTimer := down s.press.main.stableTimer }
        dampers := s.press.dampers.map fun d => { d with settle := down d.settle }
        boundary := down s.press.boundary
        entries := s.press.entries.map fun e => { e with left := e.left - 1 }
        listHold := down s.press.listHold }
      car := { s.car with
        markerLimit := down s.car.markerLimit
        actionLimit := down s.car.actionLimit
        hotTravel := down s.car.hotTravel
        quenchTimer := down s.car.quenchTimer
        drainTimer := down s.car.drainTimer
        marker := input s.car.marker
        home := input s.car.home }
      store := { s.store with write := s.store.write.map fun w => { w with left := w.left - 1 } }
      panel := { s.panel with stopn := input s.panel.stopn } }

/-- Every command, at every state, answers a next state and leaves the waiting commands alone: no command of the part
stops the machine. -/
def Obligations.EveryCommandAnswersAndKeepsTheQueue : Prop :=
  ∀ (c : Instr) (s : State), ∃ t, exec c s = .next t ∧ t.pending = s.pending

/-! ### What only some commands change -/

/-- The sampled identity, the reset cause record and the configuration in use change only at a reset or a start, and
the store array only there and at a read-back; the own number's peer entry, ABSENT after a reset, stays so (R197). -/
def Obligations.IdentityAndArrayAreKept : Prop :=
  ∀ (c : Instr) (s t : State), exec c s = .next t → c.starts = false →
    t.resetRecord = s.resetRecord ∧ t.cfg = s.cfg ∧ ((∀ m, c ≠ .storeReadback m) → sameArray s t) ∧
    (s.peerAt s.own = Peer.absent → t.peerAt t.own = Peer.absent)

/-- A set flag is cleared only by ACK_EVENTS or a reset, the mask changes only by SET_MASK or a reset, and a link
counter falls only by READ_COUNTS or a reset. -/
def Obligations.FlagsMaskAndCountersAreKept : Prop :=
  ∀ (c : Instr) (s t : State), exec c s = .next t → c.starts = false →
    ((∀ w, c ≠ .ackEvents w) → ∀ e : EventFlag, s.flag e = true → t.flag e = true) ∧
    ((∀ w, c ≠ .setMask w) → t.panel.mask = s.panel.mask) ∧
    (c ≠ .readCounts → s.countsOk →
      s.line.counters.rxGood ≤ t.line.counters.rxGood ∧ s.line.counters.rxBad ≤ t.line.counters.rxBad ∧
      s.line.counters.txDone ≤ t.line.counters.txDone ∧ s.line.counters.txRetry ≤ t.line.counters.txRetry ∧
      s.line.counters.txDrop ≤ t.line.counters.txDrop ∧ s.line.counters.lapses ≤ t.line.counters.lapses)

/-- The line state, the last-done ticket and the cursor, the stop flag and the line minute change only by the commands
that their rules name; outside a reset and a start the line minute changes only at LINE_MINUTE_ADVANCE and a STANDING,
and does not fall (R43 to R45). -/
def Obligations.LineStateAndPushValuesAreKept : Prop :=
  ∀ (c : Instr) (s t : State), exec c s = .next t →
    (c.movesLine = false → t.line.state = s.line.state) ∧
    (c.movesSeries = false → t.ticket.lastDone = s.ticket.lastDone ∧ t.sched.cursor = s.sched.cursor) ∧
    (c.movesStop = false → t.ticket.stopFlag = s.ticket.stopFlag) ∧
    (c.movesMinute = false → t.peer.lineMinute = s.peer.lineMinute) ∧
    (c.starts = false → s.peer.lineMinute ≤ t.peer.lineMinute)

/-- The judgements that end an event (log 9) leave alone the line state, the attempt and its cut-off mark, the bits read,
score, own receive stream and class 3, the counters but TX_DROP, the peer unit, the record, last-done, stop flag, pacing
and cursor, the doors, all of the pressure unit but its damper records, the array, the mask, the transaction, the answer,
and every flag but LINK_DROP, which they may set. Each own oven stands but for its claim-pending flag, and for its saved
line minute where the write of its record starts, outside a start join (R62, R190). At a section the car unit and the
frames kept after drops stand as well, at a car the ticket unit, the roster, every claim-pending flag and the dampers.
Where the units do not run nothing is judged. What they judge is thus the queues of class 0 to 2, the claim with its
backoff and its flags, the claimant context, the roster, the dampers, the car unit and the store requests. -/
def Obligations.JudgementsKeepWhatTheyDoNotJudge : Prop :=
  ∀ s0 s : State,
    (finish s0 s).pending = s.pending ∧ (finish s0 s).pins = s.pins ∧ (finish s0 s).resetRecord = s.resetRecord ∧
    (finish s0 s).cfg = s.cfg ∧ (finish s0 s).fresh = s.fresh ∧ (finish s0 s).line.state = s.line.state ∧
    (finish s0 s).line.score = s.line.score ∧ (finish s0 s).line.ownReturn = s.line.ownReturn ∧
    (finish s0 s).line.withdrawTimer = s.line.withdrawTimer ∧
    (finish s0 s).line.counters.rxGood = s.line.counters.rxGood ∧
    (finish s0 s).line.counters.rxBad = s.line.counters.rxBad ∧
    (finish s0 s).line.counters.txDone = s.line.counters.txDone ∧
    (finish s0 s).line.counters.txRetry = s.line.counters.txRetry ∧
    (finish s0 s).line.counters.lapses = s.line.counters.lapses ∧
    (finish s0 s).peer = s.peer ∧ samePush s (finish s0 s) ∧ (finish s0 s).ticket.pacing = s.ticket.pacing ∧
    (finish s0 s).door = s.door ∧
    (finish s0 s).press = { s.press with dampers := (finish s0 s).press.dampers } ∧
    (finish s0 s).store.array = s.store.array ∧ (finish s0 s).panel.mask = s.panel.mask ∧
    (finish s0 s).panel.reply = s.panel.reply ∧ (finish s0 s).panel.restartPending = s.panel.restartPending ∧
    (finish s0 s).panel.stopn = s.panel.stopn ∧ (∀ e : EventFlag, s.flag e = true → (finish s0 s).flag e = true) ∧
    (∀ e : EventFlag, e ≠ .linkDrop → (finish s0 s).flag e = s.flag e) ∧
    (finish s0 s).panel.transaction = s.panel.transaction ∧ (finish s0 s).line.attempt = s.line.attempt ∧
    (finish s0 s).line.cutOff = s.line.cutOff ∧ (finish s0 s).line.listener = s.line.listener ∧
    (finish s0 s).line.q3 = s.line.q3 ∧ (finish s0 s).sched.ovens.length = s.sched.ovens.length ∧
    (∀ k o, s.sched.ovens[k]? = some o → ∃ pending minute,
      (finish s0 s).sched.ovens[k]? = some { o with pending := pending, savedMinute := minute } ∧
      (minute ≠ o.savedMinute → minute = s.peer.lineMinute ∧ s.peer.startJoin = false ∧ s.store.write = none ∧
        (finish s0 s).store.write.map (·.page) = some (6 + k)) ∧
      (s.resetRecord.role = .car → pending = o.pending)) ∧
    (s.resetRecord.role = .ovens → (finish s0 s).car = s.car ∧ (finish s0 s).line.dropped = s.line.dropped) ∧
    (s.resetRecord.role = .car →
      (finish s0 s).sched.roster = s.sched.roster ∧ (finish s0 s).press = s.press ∧ (finish s0 s).ticket = s.ticket) ∧
    (s.running = false → finish s0 s = s)

/-- The end of an event (log 9). At a section: damper phases, own roster entries (R52), one OVEN frame for each own oven
whose summary the event changed (R61), OPEN and GO, the claim, then the store requests. At a car the held actions and
moves, then the store requests; how often moves that arrive at once are judged again (8, log 26) and at which events RAM
is judged (log 38) are the model's choices. A request joins the store queue once, STATION first and then by slot (R188),
and while no write is in progress the head's page write starts with the record as it stands after those judgements. -/
def Obligations.FinishMakesTheJudgements : Prop :=
  ∀ s0 s : State, s.running = true →
    let t := finish s0 s
    let summary (o : Oven) : Summary :=
      if o.state = .claimed ∨ o.state = .pushing then .busy
      else if o.held = true ∨ o.suspect = true then .skip
      else if o.state = .charging ∨ o.state = .coking then .coking
      else if o.state = .ripe then .ripe
      else .skip
    let changed : List Frame := ((s0.sched.ovens.zip s.sched.ovens).filter fun x => summary x.1 != summary x.2).map
      fun x => .oven x.2.number (summary x.2) (min 1023 x.2.remaining)
    let stores (u : State) : Prop :=
      let requests : List RecordId :=
        u.store.queue ++ recordOrder.filter fun r => decide (r ∈ u.store.wanted) && !decide (r ∈ u.store.queue)
      t.store.wanted = [] ∧ t.store.array = u.store.array ∧
      (u.store.write.isSome = true → t.store.write = u.store.write ∧ t.store.queue = requests) ∧
      (u.store.write = none → requests = [] → t.store.write = none ∧ t.store.queue = []) ∧
      (∀ r rest, u.store.write = none → requests = r :: rest → t.store.queue = rest ∧
        (r = .station → t.store.write = some
          ⟨14, stationPage u.resetRecord.role u.peer.lineMinute u.ticket.lastDone
            (if u.resetRecord.role = .ovens then u.sched.cursor else if u.car.quench = .empty then 0 else 1),
            false, [], 40⟩) ∧
        (∀ k o, r = .ovenOf k → u.sched.ovens[k]? = some o → t.store.write = some ⟨6 + k,
          ovenPage k (if u.peer.startJoin then o else { o with savedMinute := u.peer.lineMinute }), false, [], 40⟩))
    (s.resetRecord.role = .ovens →
      t = flushStore (judgeClaim (judgePush
        (offerOvenFrames s0.sched.ovens s.sched.ovens (refreshOwnRoster (refreshDampers s))))) ∧
      (∀ n, s.ownsOven n = false → t.rosterAt n = s.rosterAt n) ∧
      (s.sched.roster.length = 120 → (s.sched.ovens.map (·.number)).Nodup →
        ∀ o ∈ s.sched.ovens, ovenInRange o.number = true →
          t.rosterAt o.number = ⟨.current, s.own, summary o, min 1023 o.remaining⟩) ∧
      (s.onLine = true → s.line.q2.length + changed.length ≤ 8 →
        t.line.q2 = s.line.q2 ++ changed.map fun f => ⟨f, 0, false⟩) ∧
      stores s) ∧
    (s.resetRecord.role = .car →
      let judged := judgeCar (decide (s0.ticket.record.map (·.phase) ≠ s.ticket.record.map (·.phase)) ||
        (s0.ticket.stopFlag != s.ticket.stopFlag) || (s0.car.doorHeld != s.car.doorHeld)) 8 s
      t = flushStore judged ∧ stores judged)

/-! ### Resets and the start sequence -/

/-- POWER_ON_RESET, RSTN taken low and a RESTART that waits reset every unit at once, each with its cause; the outputs go
off, the positioners and the line are released with LTX recessive, NOTICE is inactive, RESET alone is set, and the
array stands but for the page of a write cut off. The model's choices: role SECTION, station 0 and the blank
configuration until a start step enters them (log 4), and that RSTN low already and a RESTART_RESET with no RESTART
waiting change nothing (log 3). -/
def Obligations.ResetTakesEffectAtOnce : Prop :=
  ∀ s : State,
    let quiet (t : State) : Prop :=
      (∀ i, t.output i = false) ∧ (∀ slot, t.positioner slot = none) ∧ t.lineEnable = false ∧ t.ltx = true ∧ t.notice = false ∧
      (∀ e : EventFlag, t.flag e = decide (e = .reset)) ∧ arrayAcrossReset s t
    (∀ held, Completes (.powerOnReset held) s fun t => afterReset .powerOn held s t ∧ quiet t) ∧
    (s.pins.rstnLow = false → Completes .rstnLow s fun t => afterReset .pin true s t ∧ quiet t) ∧
    (s.pins.rstnLow = true → exec .rstnLow s = .next s) ∧
    (s.panel.restartPending = true →
      Completes .restartReset s fun t => afterReset .panel s.pins.rstnLow s t ∧ quiet t) ∧
    (s.panel.restartPending = false → exec .restartReset s = .next s)

/-- A start sequence samples ROLE and STN and enters them in the reset cause record. With station number 0 it ends in
HALTED(STRAP): HALTED is set and nothing else of the station changes, the block unchecked, no record restored, failing
offset and counts as they were, none and 0 after a reset. With any other number it goes on to the configuration check.
-/
def Obligations.StartSamplesTheStraps : Prop :=
  ∀ (s : State) (roleHigh : Bool), s.line.state = .inReset →
    let role : Role := if roleHigh then .car else .ovens
    (Completes (.startSequence roleHigh 0) s fun t =>
      t.line = { s.line with state := .haltedStrap } ∧
      t.resetRecord = { s.resetRecord with role := role, station := 0 } ∧
      (s.resetRecord.failOffset = none → s.resetRecord.restored = 0 → s.resetRecord.bad = 0 →
        t.resetRecord.failOffset = none ∧ t.resetRecord.restored = 0 ∧ t.resetRecord.bad = 0) ∧
      t.pins = { s.pins with roleHigh := roleHigh, stn := 0, rstnLow := false } ∧
      t.flag .halted = true ∧ (∀ e : EventFlag, e ≠ .halted → t.flag e = s.flag e) ∧
      t.cfg = s.cfg ∧ t.store = s.store ∧ t.peer = s.peer ∧ t.ticket = s.ticket ∧ t.sched = s.sched ∧
      t.door = s.door ∧ t.press = s.press ∧ t.car = s.car) ∧
    (∀ stn, stn ≠ 0 → Completes (.startSequence roleHigh stn) s fun t =>
      t.resetRecord.role = role ∧ t.resetRecord.station = stn ∧ t.line.state ≠ .haltedStrap ∧
      (checkConfig role s.store.array ≠ none → t.line.state = .haltedConfig ∧
        t.resetRecord.failOffset = checkConfig role s.store.array) ∧
      (checkConfig role s.store.array = none → t.line.state = .joining))

/-- A start sequence whose block fails its check ends in HALTED(CONFIG) with the failing offset entered; a block that
passes becomes the configuration in use, the line enters JOINING with its join window of twice the standing period,
and every record read is counted as restored or bad. -/
def Obligations.StartChecksTheBlockAndJoins : Prop :=
  ∀ (s : State) (roleHigh : Bool) (stn : Nat), s.line = LineUnit.reset → stn ≠ 0 →
    let role : Role := if roleHigh then .car else .ovens
    let c := readConfig s.store.array
    (∀ off, checkConfig role s.store.array = some off →
      Completes (.startSequence roleHigh stn) s fun t =>
        t.line = { s.line with state := .haltedConfig } ∧ t.flag .halted = true ∧
        t.resetRecord = { s.resetRecord with role := role, station := stn, failOffset := some off } ∧
        t.cfg = s.cfg ∧ t.store = s.store ∧ t.sched = s.sched ∧ t.press = s.press ∧ t.car = s.car) ∧
    (checkConfig role s.store.array = none →
      Completes (.startSequence roleHigh stn) s fun t =>
        t.line.state = .joining ∧ t.cfg = c ∧ sameArray s t ∧
        t.line.q0 = (if s.pins.stopnAsserted then [⟨.stop .stopPin, 0, false⟩] else []) ∧
        t.line.q1 = [] ∧ t.line.q2 = [] ∧ t.line.q3 = [] ∧ t.line.score = 0 ∧ t.line.counters = s.line.counters ∧
        t.resetRecord.role = role ∧ t.resetRecord.station = stn ∧ t.resetRecord.cause = s.resetRecord.cause ∧
        t.resetRecord.failOffset = s.resetRecord.failOffset ∧
        t.resetRecord.restored + t.resetRecord.bad = (if role = .ovens then c.slotCount + 1 else 1) ∧
        (t.resetRecord.bad ≠ 0 → t.flag .storeFault = true) ∧
        t.peer.table = s.peer.table ∧ t.peer.joinTimer = some (1000 * (2 * c.standingPeriod)) ∧
        t.peer.startJoin = true ∧ t.peer.choice = none ∧ t.peer.heard = false ∧
        t.panel.stopn.accepted = s.pins.stopnAsserted ∧
        (role = .ovens → t.sched.ovens.map (·.number) = c.slotOvens ∧ t.door.length = c.slotCount ∧
          t.press.converting = some 0 ∧ t.press.scanTimer = some c.scanPeriod ∧
          t.press.listHold = some (1000 * c.aspirationTime)) ∧
        (role = .car → t.car.state = s.car.state ∧ t.car.position = s.car.position ∧
          (c.carKind ≠ .quench → t.car.quench = .empty)))

/-- A block whose bytes do not sum to 0 modulo 256 fails at offset 95, the check byte, and no field is examined. Otherwise
it fails at the lowest offset whose field is out of the range that the table of R5 gives it for the role, or breaks the
relation that R6 states for it, and it is accepted when there is none. The configuration read from an accepted block
holds every field of its role in its range and keeps those relations. -/
def Obligations.AcceptedBlockIsInRange : Prop :=
  ∀ m : Memory,
    let c := readConfig m
    let byte (a : Nat) : Nat := (Memory.read m a).toNat
    let word (a : Nat) : Nat := 256 * byte a + byte (a + 1)
    let within (lo hi v : Nat) : Prop := lo ≤ v ∧ v ≤ hi
    let pascals (a : Nat) : Prop := word a ≤ 500 ∨ 65036 ≤ word a
    let slot (i : Nat) : Nat × Prop := (9 + i,
      (i < byte 8 → within 1 120 (byte (9 + i)) ∧ ∀ j, j < i → byte (9 + j) ≠ byte (9 + i)) ∧
      (byte 8 ≤ i → byte (9 + i) = 0))
    let both : List (Nat × Prop) :=
      [(0, within 1 10 (byte 0)), (1, within 1 3 (byte 1)), (2, within 4 32 (byte 2)), (3, within 5 60 (byte 3)),
       (4, within 1 15 (byte 4))]
    let ofSection : List (Nat × Prop) :=
      [(8, within 1 8 (byte 8)), slot 0, slot 1, slot 2, slot 3, slot 4, slot 5, slot 6, slot 7,
       (17, within 2 9 (byte 17)), (18, within 1 (byte 17 - 1) (byte 18) ∧ Nat.gcd (byte 18) (byte 17) = 1),
       (19, within 240 2400 (word 19)), (21, within 10 240 (byte 21)), (22, pascals 22), (24, pascals 24),
       (26, within 1 50 (byte 26)), (27, byte 27 ≤ 100), (28, within 2 60 (byte 28)), (29, byte 29 ≤ 62),
       (30, within 1 63 (byte 30) ∧ byte 29 < byte 30), (31, within 100 1000 (word 31))] ++
      (List.range 9).map (fun i => (33 + i, byte (33 + i) ≤ 7 ∨ 249 ≤ byte (33 + i))) ++
      [(42, within 1 50 (byte 42)), (43, within 5 120 (byte 43)), (44, pascals 44), (46, within 1 3 (byte 46)),
       (47, within 60 600 (word 47)), (49, within 10 120 (byte 49)), (50, 1 ≤ byte 50), (51, within 1 8 (byte 51)),
       (52, byte 52 ≤ 3), (53, within 5 60 (byte 53)), (54, within 2 30 (byte 54)), (55, byte 55 ≤ 1),
       (56, within 2 30 (byte 56)), (57, within 60 1200 (word 57)), (59, within 30 300 (word 59)),
       (61, within 60 900 (word 61)), (63, within 10 120 (byte 63))]
    let car : List (Nat × Prop) :=
      [(5, within 1 3 (byte 5)), (64, 1 ≤ byte 64), (65, within 1 2 (byte 65)), (66, 1 ≤ byte 66),
       (67, 1 ≤ byte 67 ∧ byte 67 ≠ byte 66), (69, within 5 60 (byte 69)), (70, within 10 300 (word 70)),
       (72, within 30 300 (word 72)), (74, within 30 180 (byte 74)), (75, within 10 120 (byte 75)),
       (76, within 30 300 (word 76))]
    let fields (role : Role) : List (Nat × Prop) := both ++ (if role = .ovens then ofSection else car)
    (∀ role, cfgSum m = 0 →
      (checkConfig role m = none ↔ ∀ x ∈ fields role, x.2) ∧
      (∀ off, checkConfig role m = some off ↔
        (∃ x ∈ fields role, x.1 = off ∧ ¬x.2) ∧ ∀ x ∈ fields role, x.1 < off → x.2)) ∧
    let signed (bound v : Int) : Prop := -bound ≤ v ∧ v ≤ bound
    (∀ role, checkConfig role m = none →
      cfgSum m = 0 ∧ within 1 10 c.standingPeriod ∧ within 1 3 c.probation ∧ within 4 32 c.withdrawThreshold ∧
      within 5 60 c.withdrawTime ∧ within 1 15 c.noiseReject) ∧
    (checkConfig .ovens m = none →
      within 1 8 c.slotCount ∧ c.slotOvens.length = c.slotCount ∧ c.slotOvens.Nodup ∧
      (∀ n ∈ c.slotOvens, within 1 120 n) ∧ (∀ i, c.slotCount ≤ i → i < 8 → byte (9 + i) = 0) ∧
      within 2 9 c.step ∧ within 1 (c.step - 1) c.shift ∧ Nat.gcd c.shift c.step = 1 ∧
      within 240 2400 c.defaultTarget ∧ within 10 240 c.earlyMinutes ∧
      signed 500 c.earlySetpoint ∧ signed 500 c.normalSetpoint ∧ 1 ≤ c.deadband ∧ c.deadband ≤ 50 ∧
      0 ≤ c.leakRelief ∧ c.leakRelief ≤ 100 ∧ within 2 60 c.settleTime ∧ c.damperFloor ≤ 62 ∧
      within 1 63 c.damperCeiling ∧ c.damperFloor < c.damperCeiling ∧ within 100 1000 c.scanPeriod ∧
      c.channelOffsets.length = 9 ∧ (∀ v ∈ c.channelOffsets, signed 7 v) ∧
      1 ≤ c.mainHysteresis ∧ c.mainHysteresis ≤ 50 ∧ within 5 120 c.mainStableTime ∧ signed 500 c.mainLowLimit ∧
      within 1 3 c.aspirationLimit ∧ within 60 600 c.aspirationTime ∧ within 10 120 c.leakWindow ∧
      within 1 255 c.leakThreshold ∧ within 1 8 c.cleanCount ∧ c.reseatLimit ≤ 3 ∧ within 5 60 c.inflateLimit ∧
      within 2 30 c.deflateTime ∧ byte 55 ≤ 1 ∧ c.leakFalling = decide (byte 55 = 1) ∧ within 2 30 c.assentLimit ∧
      within 60 1200 c.spotLimit ∧ within 30 300 c.doorOffLimit ∧ within 60 900 c.pacingTime ∧
      within 10 120 c.claimBackoff) ∧
    (checkConfig .car m = none →
      (byte 5 = 1 ∧ c.carKind = .pusher ∨ byte 5 = 2 ∧ c.carKind = .guide ∨ byte 5 = 3 ∧ c.carKind = .quench) ∧
      within 1 255 c.marker1 ∧ within 1 2 c.pitch ∧ within 1 255 c.towerMarker ∧ within 1 255 c.wharfMarker ∧
      c.wharfMarker ≠ c.towerMarker ∧ c.parkMarker ≤ 255 ∧ within 5 60 c.markerLimit ∧ within 10 300 c.actionLimit ∧
      within 30 300 c.ramLimit ∧ within 30 180 c.quenchTime ∧ within 10 120 c.drainTime ∧
      within 30 300 c.hotTravelLimit) ∧
    (∀ role, cfgSum m ≠ 0 → checkConfig role m = some 95)

/-- What a page write holds reads back as the record it was made from; a good oven record restores by its saved state:
CHARGING as COKING from its full target and suspect, CLAIMED as RIPE, PUSHING as OUT_OF_SERVICE, others as saved. A
START_SEQUENCE whose block passes restores each slot's oven so, or UNKNOWN with the default target for a bad record, and
line minute, last-done, cursor and quench phase from the station record; with a bad one 0, 0, 0, and LOADED at a quench
car, whose queue then holds TOWER. The layout of the pages is log 11. -/
def Obligations.SavedRecordsReadBackAndRestore : Prop :=
  ((∀ (k : Nat) (o : Oven), k < 8 → ovenInRange o.number = true → between 240 2400 o.target = true →
    countsAgree o.state o.target o.remaining o.gross = true → o.savedMinute ≤ 16777215 →
    readOvenPage k o.number (ovenPage k o) = some { o with pending := false, restored := true }) ∧
  (∀ (lineMinute last : Nat) (t : Ticket), lineMinute ≤ 16777215 →
    (last ≤ 1144 → readStationPage .ovens (stationPage .ovens lineMinute t last) = some (lineMinute, t, last)) ∧
    (last ≤ 1 → readStationPage .car (stationPage .car lineMinute t last) = some (lineMinute, t, last)))) ∧
  (∀ o : Oven,
    (o.state = .charging →
      o.restore = { o with state := .coking, remaining := o.target, gross := 0, suspect := true }) ∧
    (o.state = .claimed → o.restore = { o with state := .ripe, remaining := 0 }) ∧
    (o.state = .pushing →
      o.restore = { o with state := .outOfService, remaining := 0, gross := 0, suspect := false }) ∧
    (o.state ≠ .charging → o.state ≠ .claimed → o.state ≠ .pushing → o.restore = o)) ∧
  (∀ (s : State) (roleHigh : Bool) (stn : Nat), s.line.state = .inReset → stn ≠ 0 →
    let role : Role := if roleHigh then .car else .ovens
    let m := s.store.array
    let c := readConfig m
    let quenchCar : Prop := role = .car ∧ c.carKind = .quench
    checkConfig role m = none →
    Completes (.startSequence roleHigh stn) s fun t =>
      (role = .ovens → t.sched.ovens.length = c.slotOvens.length ∧ ∀ k n, c.slotOvens[k]? = some n →
        (∀ o, readOvenPage k n (Memory.page m (6 + k)) = some o → t.sched.ovens[k]? = some o.restore) ∧
        (readOvenPage k n (Memory.page m (6 + k)) = none → t.sched.ovens[k]? = some
          { number := n, state := .unknown, held := false, suspect := false, pending := false,
            target := c.defaultTarget, remaining := c.defaultTarget, gross := 0, savedMinute := 0,
            restored := false })) ∧
      (∀ lineMinute last third, readStationPage role (Memory.page m 14) = some (lineMinute, last, third) →
        t.peer.lineMinute = lineMinute ∧ t.ticket.lastDone = last ∧ (role = .ovens → t.sched.cursor = third) ∧
        (quenchCar → t.car.quench = if third = 0 then .empty else .loaded)) ∧
      (readStationPage role (Memory.page m 14) = none →
        t.peer.lineMinute = 0 ∧ t.ticket.lastDone = 0 ∧ (role = .ovens → t.sched.cursor = 0) ∧
        (quenchCar → t.car.quench = .loaded)) ∧
      (quenchCar → t.car.queue = if t.car.quench = .loaded then [⟨.tower, some c.towerMarker, none⟩] else []))

/-! ### The line interface -/

/-- ATTEMPT_START in ACTIVE takes a copy of the head frame of the lowest-numbered non-empty class, with LEN active; the
line being idle, no cut-off attempt goes on. ARBITRATION_LOST ends the attempt and counts nothing; a frame marked for
withdrawal is then removed, and a CLAIM so removed settles the outstanding claim with the backoff. -/
def Obligations.AttemptsStartAndLoseUncounted : Prop :=
  (∀ (s : State) (q : Queued) (rest : List Queued), s.line.state = .active → s.line.attempt = none →
    let sends : Prop := Completes .attemptStart s fun t =>
      t = { s with line := { s.line with attempt := some ⟨q.frame, false⟩, cutOff := false } } ∧ t.lineEnable = true
    (s.line.q0 = q :: rest → sends) ∧
    (s.line.q0 = [] → s.line.q1 = q :: rest → sends) ∧
    (s.line.q0 = [] → s.line.q1 = [] → s.line.q2 = q :: rest → sends) ∧
    (s.line.q0 = [] → s.line.q1 = [] → s.line.q2 = [] → s.line.q3 = q :: rest → sends) ∧
    (s.line.q0 = [] → s.line.q1 = [] → s.line.q2 = [] → s.line.q3 = [] → exec .attemptStart s = .next s)) ∧
  (∀ (s : State) (a : Attempt), s.line.attempt = some a →
    (a.replaced = true ∨ (∀ q, (s.line.queue a.frame.cls).head? = some q → q.marked = false) →
      Effects .arbitrationLost s fun t => t = { s with line := { s.line with attempt := none } }) ∧
    (∀ (q : Queued) (rest : List Queued), a.replaced = false → s.line.queue a.frame.cls = q :: rest → q.marked = true →
      Effects .arbitrationLost s fun t =>
        t.line.attempt = none ∧ t.line.queue a.frame.cls = rest ∧ t.line.score = s.line.score ∧
        t.line.counters = s.line.counters ∧
        (∀ tk o, q.frame = .claim tk o → s.ticket.claim = some ⟨tk, o⟩ →
          t.ticket.claim = none ∧ t.ticket.backoff = some (1000 * s.cfg.claimBackoff))))

/-- TRANSMIT_ERROR ends the attempt, what the line then carries being the own cut-off attempt, raises the score, counts
TX_RETRY and the frame's attempts, and drops it at eight, where the frames that are kept after a drop wait to be offered
again (R86, R130, R202). At the withdraw threshold the station is WITHDRAWN as well: class 3 emptied and the other
classes kept, the withdraw timer started, WITHDRAWN set, the standing period stopped. A claimant then closes its record
before GONE with TICKET_ABANDONED, its oven RIPE and the backoff started, offers ABANDON(OWNER_RESTART) unless an ABANDON
was offered already, and withdraws the CLAIM of an outstanding claim (R84, R96), which leaves its queue at once where no
frame of its class is in transmission and every frame stands in the queue of its class, as every step keeps it; another
record stands. The timer's expiry begins a rejoin with the score and every attempt count 0 and the queued frames kept. -/
def Obligations.TransmitErrorsDropAndWithdraw : Prop :=
  (∀ (s : State) (a : Attempt) (q : Queued) (rest : List Queued), s.line.attempt = some a →
    a.replaced = false → s.line.queue a.frame.cls = q :: rest → s.line.score + 1 < s.cfg.withdrawThreshold →
    Effects .transmitError s fun t =>
      t.line.state = s.line.state ∧ t.line.attempt = none ∧ t.line.cutOff = true ∧ t.line.score = s.line.score + 1 ∧
      t.line.counters.txRetry = min 65535 (s.line.counters.txRetry + 1) ∧
      t.line.counters.txDone = s.line.counters.txDone ∧
      (q.marked = false → q.attempts + 1 < 8 →
        t.line.queue a.frame.cls = { q with attempts := q.attempts + 1 } :: rest ∧
        t.line.counters.txDrop = s.line.counters.txDrop ∧ sameButLine s t ∧ t.panel.events = s.panel.events) ∧
      (q.marked = false → 8 ≤ q.attempts + 1 →
        t.line.queue a.frame.cls = rest ∧ t.line.counters.txDrop = min 65535 (s.line.counters.txDrop + 1) ∧
        t.flag .linkDrop = true ∧ keptAtDrop q.frame s t) ∧
      (q.marked = true → t.line.queue a.frame.cls = rest ∧ t.line.counters.txDrop = s.line.counters.txDrop)) ∧
  (∀ (s : State) (a : Attempt), s.line.attempt = some a → s.cfg.withdrawThreshold ≤ s.line.score + 1 →
    Effects .transmitError s fun t =>
      t.line.state = .withdrawn ∧ t.line.attempt = none ∧ t.line.cutOff = true ∧ t.line.q3 = [] ∧
      t.line.withdrawTimer = some (1000 * s.cfg.withdrawTime) ∧ t.line.score = s.line.score + 1 ∧
      t.line.counters.txRetry = min 65535 (s.line.counters.txRetry + 1) ∧ t.flag .withdrawn = true ∧
      t.peer = { s.peer with standingTimer := none } ∧ t.ticket.lastDone = s.ticket.lastDone ∧
      t.ticket.stopFlag = s.ticket.stopFlag ∧ t.sched.cursor = s.sched.cursor ∧
      (a.frame.cls ≠ 2 → t.line.q2 = s.line.q2) ∧
      (s.ticket.record = none → t.ticket.record = none) ∧
      (∀ r, s.ticket.record = some r → s.ticket.context = none ∨ r.phase.beforeGone = false →
        t.ticket.record = some r) ∧
      (∀ r, s.ticket.record = some r → s.ticket.context.isSome = true → r.phase.beforeGone = true →
        t.ticket.record = none ∧ t.ticket.context = none ∧ t.flag .ticketAbandoned = true ∧
        (r.abandonOffered = false → s.onLine = true → s.line.q0.length < 4 →
          t.line.q0.getLast? = some ⟨.abandon r.ticket r.oven .ownerRestart, 0, false⟩) ∧
        (r.abandonOffered = true → a.frame.cls ≠ 0 → ∀ q ∈ t.line.q0, q ∈ s.line.q0) ∧
        (s.resetRecord.role = .ovens → ∀ k o, s.slotOf r.oven = some k → s.sched.ovens[k]? = some o →
          (∃ o', t.sched.ovens[k]? = some o' ∧ o'.state = .ripe ∧ o'.remaining = 0 ∧ o'.gross = o.gross) ∧
          t.ticket.backoff = some (1000 * s.cfg.claimBackoff) ∧ t.orderStands k = false)) ∧
      (∀ c, s.ticket.claim = some c → s.line.holds (.claim c.ticket c.oven) = true →
        t.ticket.claim = none ∧ t.ticket.backoff = some (1000 * s.cfg.claimBackoff) ∧
        (s.queuesOk → a.frame.cls ≠ 1 → ∀ q ∈ t.line.q1, q.frame ≠ .claim c.ticket c.oven)) ∧
      (s.ticket.claim = none → s.ticket.record = none →
        (∀ c, c < 3 → c ≠ a.frame.cls → t.line.queue c = s.line.queue c) ∧
        (∀ (q : Queued) (rest : List Queued), a.replaced = false → s.line.queue a.frame.cls = q :: rest →
          q.marked = false → q.attempts + 1 < 8 → a.frame.cls < 3 →
          t.line.queue a.frame.cls = { q with attempts := q.attempts + 1 } :: rest ∧ t.ticket = s.ticket))) ∧
  (∀ s : State, s.line.state = .withdrawn → s.line.withdrawTimer.isSome = true →
    let clear (q : List Queued) : List Queued := q.map fun x => { x with attempts := 0 }
    exec .withdrawTimerExpiry s = .next { s with
      line := { s.line with
        state := .joining
        q0 := clear s.line.q0
        q1 := clear s.line.q1
        q2 := clear s.line.q2
        q3 := clear s.line.q3
        score := 0
        withdrawTimer := none }
      peer := { s.peer with
        joinTimer := some (1000 * (2 * s.cfg.standingPeriod))
        startJoin := false
        choice := none
        heard := false }
      press := if s.resetRecord.role = .ovens then { s.press with listHold := some (1000 * s.cfg.aspirationTime) }
        else s.press })

/-- ATTEMPT_COMPLETE counts TX_DONE, lowers the score by 1 but not below 0, and puts the frame sent into the station's
own receive stream; with no dropped frame waiting the frame leaves its queue, unless a new STANDING replaced it, and
nothing else changes. An offered frame of class 0 to 2 joins its queue in JOINING, ACTIVE and WITHDRAWN, or at a full one
is dropped with TX_DROP and LINK_DROP. So dropped, a car's answer or report is kept (R130), a section's ABANDON while its
record stands before GONE with its mark set (R86), and the STOP of the STOPN pin, once (R202); no other frame is. A
STANDING takes the place of the pending one; elsewhere nothing changes. The frames kept after drops are offered again at
the next completion, in the order of their drops, also into the class of the frame just sent, where what they are for
still stands: a STOP while STOPN is accepted as asserted (R202), a frame that names the record while it is present, at a
section before GONE (R86), and a quench car's SPOTTED only while it is EMPTY (R130, R141). The others are discarded. That
one list keeps all of them is the model's choice (log 19). -/
def Obligations.CompletionsSendAndOffersQueue : Prop :=
  (∀ (s : State) (a : Attempt), s.line.attempt = some a →
      Effects .attemptComplete s fun t =>
        t.line.state = s.line.state ∧ t.line.attempt = none ∧ t.line.score = s.line.score - 1 ∧
        t.line.ownReturn = s.line.ownReturn ++ [a.frame] ∧
        t.line.counters.txDone = min 65535 (s.line.counters.txDone + 1) ∧
        t.line.counters.rxGood = s.line.counters.rxGood ∧ t.line.counters.txRetry = s.line.counters.txRetry ∧
        samePush s t ∧ t.peer = s.peer ∧ t.press = s.press ∧ t.car = s.car ∧
        (s.line.dropped = [] →
          (a.replaced = false → t.line.queue a.frame.cls = (s.line.queue a.frame.cls).tail) ∧
          (a.replaced = true → t.line.queue a.frame.cls = s.line.queue a.frame.cls) ∧
          sameButLine s t ∧ t.panel.events = s.panel.events)) ∧
  ((∀ (s : State) (f : Frame),
      (s.onLine = true → f.cls < 3 → (s.line.queue f.cls).length < classCapacity f.cls →
        offer f s = { s with line := s.line.setQueue f.cls (s.line.queue f.cls ++ [⟨f, 0, false⟩]) }) ∧
      (s.onLine = true → f.cls < 3 → classCapacity f.cls ≤ (s.line.queue f.cls).length →
        (∀ c, (offer f s).line.queue c = s.line.queue c) ∧
        (offer f s).line.counters.txDrop = min 65535 (s.line.counters.txDrop + 1) ∧
        (offer f s).flag .linkDrop = true ∧ samePush s (offer f s) ∧ keptAtDrop f s (offer f s)) ∧
      (∀ b, f = .standing b → s.line.state = .active →
        (offer f s).line.q3 = [⟨f, 0, false⟩] ∧ (offer f s).line.q0 = s.line.q0 ∧ (offer f s).line.q1 = s.line.q1 ∧
        (offer f s).line.q2 = s.line.q2 ∧ (offer f s).line.counters = s.line.counters) ∧
      (s.onLine = false → offer f s = s))) ∧
  ((∀ (tk : Ticket) (o : Nat) (k : CarKind) (decline : DeclineReason) (why : AbandonReason),
      ∀ f ∈ ([.abandon tk o why, .stall tk o, .assent tk o k, .decline tk o k decline, .spotted tk o k, .ready tk o k,
        .finished tk o] : List Frame), f.names = some (tk, o)) ∧
    (∀ (s : State) (f : Frame),
      (∀ origin, f = .stop origin → (reofferStands f s = true ↔ s.panel.stopn.accepted = true)) ∧
      (f.names = none → (∀ origin, f ≠ .stop origin) → reofferStands f s = false) ∧
      (∀ tk o, f.names = some (tk, o) →
        (s.ticket.record = none → reofferStands f s = false) ∧
        (∀ r, s.ticket.record = some r →
          (reofferStands f s = true ↔ r.ticket = tk ∧ r.oven = o ∧
            (s.resetRecord.role = .ovens → r.phase.beforeGone = true) ∧
            (s.resetRecord.role = .car → f = .spotted tk o .quench → s.car.quench = .empty))))) ∧
    (∀ (s : State) (a : Attempt), s.onLine = true → s.line.attempt = some a →
      let left (c : Nat) : List Queued :=
        if a.replaced = false ∧ c = a.frame.cls then (s.line.queue c).tail else s.line.queue c
      let again (c : Nat) : List Frame := s.line.dropped.filter fun f => f.cls == c && reofferStands f s
      (∀ c, c < 3 → (left c).length + (again c).length ≤ classCapacity c) →
      Effects .attemptComplete s fun t =>
        (∀ c, c < 3 → t.line.queue c = left c ++ (again c).map fun f => ⟨f, 0, false⟩) ∧ t.line.dropped = [] ∧
        t.panel.events = s.panel.events))

/-! ### Frames received -/

/-- Every frame from every station is received alike, and ends any own cut-off attempt. Where no receiver runs nothing
changes. A payload or source out of range counts RX_BAD; in HALTED(DUPLICATE), and from a peer the standing gate
stops, a valid frame counts RX_GOOD and reaches no unit; another's frame under the own number halts the station; one
handed on counts RX_GOOD when it came from a peer. A RECEIVE_FAULT counts RX_BAD and changes nothing else; but one that
ends the own cut-off attempt, whatever its kind, is not counted (R26; log 7). -/
def Obligations.ReceptionIsCountedAndGated : Prop :=
  (∀ (s : State) (src : Nat) (f : Frame),
    let c := Frame.command src f
    let good := { s with
      line := { s.line with
        cutOff := false
        counters := { s.line.counters with rxGood := min 65535 (s.line.counters.rxGood + 1) } } }
    let bad := { s with
      line := { s.line with
        cutOff := false
        counters := { s.line.counters with rxBad := min 65535 (s.line.counters.rxBad + 1) } } }
    (s.running = false → exec c s = .next s) ∧
    (s.running = true → (f.valid && between 1 31 src) = false → exec c s = .next bad) ∧
    (s.line.state = .haltedDuplicate → (f.valid && between 1 31 src) = true → exec c s = .next good) ∧
    (s.onLine = true → (f.valid && between 1 31 src) = true → src ≠ s.own → s.gatePasses src f = false →
      exec c s = .next good) ∧
    (s.onLine = true → (f.valid && between 1 31 src) = true → src = s.own → s.returning f = false →
      Effects c s fun t =>
        t.line.state = .haltedDuplicate ∧ t.line.counters = good.line.counters ∧ t.line.q0 = [] ∧ t.line.q1 = [] ∧
        t.line.q2 = [] ∧ t.line.q3 = [] ∧ t.line.attempt = none ∧ t.line.withdrawTimer = none ∧
        t.flag .halted = true ∧ samePush s t ∧ t.ticket.claim = none ∧ t.press.entries = [] ∧
        t.press.listHold = none ∧ t.peer.standingTimer = none ∧ t.peer.joinTimer = none) ∧
    (s.handsOn src f = true →
      Completes c s fun t => t.line.counters.rxGood =
        if src = s.own then s.line.counters.rxGood else min 65535 (s.line.counters.rxGood + 1))) ∧
  (∀ (s : State) (f : RxFault),
    (s.running = true → s.line.cutOff = true →
      exec (.receiveFault f) s = .next { s with line := { s.line with cutOff := false } }) ∧
    (s.running = true → s.line.cutOff = false → exec (.receiveFault f) s = .next { s with
      line := { s.line with
        cutOff := false
        counters := { s.line.counters with rxBad := min 65535 (s.line.counters.rxBad + 1) } } }) ∧
    (s.running = false → exec (.receiveFault f) s = .next s))

/-- STOP taken sets the stop flag, and BATTERY_STOP when the flag was clear, and suspends a claimant's running limits;
taken while set it sets no event. RESUME clears the flag and lets suspended limits run on, and with STOPN accepted as
asserted STOP is offered again. Neither changes a record, last-done or the cursor. -/
def Obligations.StopAndResumeSetAndClearTheFlag : Prop :=
  ∀ (s : State) (src : Nat) (origin : StopOrigin),
    (s.handsOn src (.stop origin) = true →
      Effects (.stopFrame src origin) s fun t =>
        t.ticket.stopFlag = true ∧ t.ticket.record = s.ticket.record ∧ t.ticket.lastDone = s.ticket.lastDone ∧
        t.sched.cursor = s.sched.cursor ∧ t.cfg = s.cfg ∧ t.door = s.door ∧ t.press = s.press ∧
        (s.ticket.stopFlag = false → t.flag .batteryStop = true) ∧
        (s.ticket.stopFlag = true → t.panel.events = s.panel.events ∧ t.ticket = s.ticket) ∧
        (s.ticket.stopFlag = false → s.resetRecord.role = .ovens →
          t.ticket.context.map (fun c => (c.assent, c.spot, c.doorOff)) =
            s.ticket.context.map (fun c => (c.assent.suspend, c.spot.suspend, c.doorOff.suspend)) ∧
          (s.line.attempt = none → t.ticket.claim = none ∨ ∃ k, t.ticket.claim = some k ∧
            s.line.holds (.claim k.ticket k.oven) = false))) ∧
    (s.handsOn src .resume = true →
      Effects (.resumeFrame src) s fun t =>
        t.ticket.stopFlag = false ∧ t.ticket.record = s.ticket.record ∧ t.ticket.lastDone = s.ticket.lastDone ∧
        t.sched.cursor = s.sched.cursor ∧ t.door = s.door ∧ t.press = s.press ∧
        (s.ticket.stopFlag = true → s.resetRecord.role = .ovens →
          t.ticket.context.map (fun c => (c.assent, c.spot, c.doorOff)) =
            s.ticket.context.map (fun c => (c.assent.continueOn, c.spot.continueOn, c.doorOff.continueOn))) ∧
        (s.panel.stopn.accepted = true → s.line.q0.length < 4 →
          t.line.q0 = s.line.q0 ++ [⟨.stop .stopPin, 0, false⟩]) ∧
        (s.panel.stopn.accepted = false → t.line.q0 = s.line.q0))

/-- CLAIM(T, oven) from a section, the oven not another station's claim on an own one, opens the record when none is
present and T is last-done + 1, at every station alike and whatever the stop flag; the station's own outstanding claim
is settled without backoff, its assent limit starts, suspended while the stop flag is set, and the own oven becomes
CLAIMED with no minutes remaining and its claim-pending flag cleared (R68, R83). Otherwise the record stands, and an own
claim is lost with the backoff, its oven as it was with the flag cleared. Another section's CLAIM of an own oven halts
the station. One from a sender that is no section is ignored, whatever oven it names. -/
def Obligations.FirstClaimOpensTheRecord : Prop :=
  ∀ (s : State) (src : Nat) (tk : Ticket) (oven : Nat), s.handsOn src (.claim tk oven) = true →
    (s.fromSection src = true → src ≠ s.own → s.ownsOven oven = true →
      Effects (.claimFrame src tk oven) s fun t =>
        t.line.state = .haltedDuplicate ∧ t.ticket.record = s.ticket.record ∧ t.flag .halted = true) ∧
    (src = s.own ∨ s.ownsOven oven = false → s.fromSection src = true → s.ticket.record = none →
      tk = s.ticket.lastDone + 1 →
      Effects (.claimFrame src tk oven) s fun t =>
        t.ticket.record = some
          { ticket := tk, oven := oven, claimant := some src, phase := .claimed, assents := ⟨false, false, false⟩,
            reports := ⟨false, false, false, false, false⟩, abandonOffered := false } ∧
        t.ticket.lastDone = s.ticket.lastDone ∧ t.ticket.stopFlag = s.ticket.stopFlag ∧
        t.sched.cursor = s.sched.cursor ∧
        (src = s.own → s.resetRecord.role = .ovens →
          t.ticket.context = some
            { assent := if s.ticket.stopFlag then .suspended (1000 * s.cfg.assentLimit)
                else .running (1000 * s.cfg.assentLimit)
              spot := .stopped
              doorOff := .stopped
              openOffered := false
              goOffered := false
              served := ⟨[], [], []⟩ } ∧
          (s.ticket.claim = some ⟨tk, oven⟩ → t.ticket.claim = none ∧ t.ticket.backoff = s.ticket.backoff)) ∧
        (∀ k o, s.resetRecord.role = .ovens → s.slotOf oven = some k → s.sched.ovens[k]? = some o →
          s.ticket.claim = none ∨ s.ticket.claim = some ⟨tk, oven⟩ →
          t.sched.ovens[k]? = some { o with
            state := .claimed
            remaining := 0
            pending := if s.ticket.claim = none then o.pending else false } ∧
          (∀ j p, j ≠ k → s.sched.ovens[j]? = some p → p.number ≠ oven → t.sched.ovens[j]? = some p) ∧
          (o.state ≠ .claimed → RecordId.ovenOf k ∈ t.store.wanted)) ∧
        (s.ownsOven oven = false → s.ticket.claim = none → t.sched = s.sched) ∧
        (src ≠ s.own → t.ticket.context = none)) ∧
    (src = s.own ∨ s.ownsOven oven = false → s.fromSection src = true →
      s.ticket.record ≠ none ∨ tk ≠ s.ticket.lastDone + 1 →
      Effects (.claimFrame src tk oven) s fun t =>
        samePush s t ∧
        (src = s.own → s.ticket.claim = some ⟨tk, oven⟩ →
          t.ticket.claim = none ∧ t.ticket.backoff = some (1000 * s.cfg.claimBackoff) ∧
          t.sched.ovens = s.sched.ovens.map fun o => if o.number = oven then { o with pending := false } else o) ∧
        (src ≠ s.own → t.ticket = s.ticket ∧ t.sched = s.sched)) ∧
    (s.fromSection src = false →
      Effects (.claimFrame src tk oven) s fun t =>
        t.ticket = s.ticket ∧ t.sched = s.sched ∧ t.car = s.car ∧ t.line.state = s.line.state)

/-- A running car takes a CLAIM from a section for last-done + 1 while no record is present: it opens the record, and
answers it by the first case of R129: DECLINE with STOPPED, UNHOMED, FAULT, QUEUE_FULL or RANGE and no other change of
the car, or a SPOT entry at the tail in place of an unstarted PARK, the served ticket, and ASSENT. -/
def Obligations.CarAnswersTheClaim : Prop :=
  ∀ (s : State) (src : Nat) (tk : Ticket) (oven : Nat), s.resetRecord.role = .car →
    s.handsOn src (.claim tk oven) = true → s.fromSection src = true → s.ownsOven oven = false →
    s.ticket.claim = none → s.ticket.record = none → tk = s.ticket.lastDone + 1 →
    let opened (t : State) : Prop :=
      t.ticket = { s.ticket with
        context := none
        record := some
          { ticket := tk, oven := oven, claimant := some src, phase := .claimed, assents := ⟨false, false, false⟩,
            reports := ⟨false, false, false, false, false⟩, abandonOffered := false } }
    let declines (why : DeclineReason) : Prop := Effects (.claimFrame src tk oven) s fun t =>
      opened t ∧ t.car = s.car ∧ queues (.decline tk oven s.cfg.carKind why) s t
    let spot := s.cfg.marker1 + (oven - 1) * s.cfg.pitch
    let parks (m : Move) : Bool := m.purpose == .park
    (s.ticket.stopFlag = true → declines .stopped) ∧
    (s.ticket.stopFlag = false → s.car.position = none → declines .unhomed) ∧
    (s.ticket.stopFlag = false → s.car.position ≠ none → s.car.state = .fault → declines .fault) ∧
    (s.ticket.stopFlag = false → s.car.position ≠ none → s.car.state ≠ .fault → 4 ≤ s.car.queue.length →
      declines .queueFull) ∧
    (s.ticket.stopFlag = false → s.car.position ≠ none → s.car.state ≠ .fault → s.car.queue.length < 4 → 255 < spot →
      declines .range) ∧
    (s.ticket.stopFlag = false → s.car.position ≠ none → s.car.state ≠ .fault → s.car.queue.length < 4 → spot ≤ 255 →
      Effects (.claimFrame src tk oven) s fun t => opened t ∧
        t.car = { s.car with
          served := some tk
          faultDeclined := false
          queue :=
            (if s.car.inProgress then s.car.queue.take 1 ++ (s.car.queue.drop 1).filter (fun m => !parks m)
             else s.car.queue.filter fun m => !parks m) ++ [⟨.spot, some spot, some tk⟩] } ∧
        queues (.assent tk oven s.cfg.carKind) s t)

/-- ASSENT from a car of its kind that matches adds the kind, with its served-ticket mark clear at the claimant, and the
third kind makes a CLAIMED record ASSENTED: the claimant's assent limit stops and its spot limit starts, suspended while
the stop flag is set (R105, R106), and an own oven is CLAIMED (R68). A kind already in the set changes nothing. A matching
DECLINE changes no record but makes the claimant offer
ABANDON(DECLINED), and an ASSENT or DECLINE for another oven ABANDON(DIVERGED), before GONE and once. Any other
changes nothing. -/
def Obligations.AssentAndDeclineMoveTheRecord : Prop :=
  ∀ (s : State) (src : Nat) (tk : Ticket) (oven : Nat) (k : CarKind) (why : DeclineReason) (r : Record),
    s.ticket.record = some r →
    let abandons (reason : AbandonReason) (t : State) : Prop :=
      (s.ticket.context.isSome = true → r.phase.beforeGone = true → r.abandonOffered = false →
        t.ticket.record = some { r with abandonOffered := true } ∧
        (s.line.q0.length < 4 →
          t.line.q0.getLast? = some ⟨.abandon r.ticket r.oven reason, 0, false⟩) ∧
        t.ticket.context.map (fun c => (c.assent, c.spot, c.doorOff)) =
          s.ticket.context.map (fun _ => (.stopped, .stopped, .stopped))) ∧
      (s.ticket.context.isSome = false ∨ r.phase.beforeGone = false ∨ r.abandonOffered = true →
        t.ticket.record = some r)
    let nothing (t : State) : Prop := t.ticket = s.ticket ∧ t.sched = s.sched ∧ t.door = s.door
    (s.handsOn src (.assent tk oven k) = true →
      (s.fromCar src k = true → r.ticket = tk → r.oven = oven → r.assents.has k = false →
        Effects (.assentFrame src tk oven k) s fun t =>
          t.ticket.record = some { r with
            assents := r.assents.put k true
            phase := if (r.assents.put k true).full ∧ r.phase = .claimed then .assented else r.phase } ∧
          ((r.assents.put k true).full = true → r.phase = .claimed →
            ovenTakes r.oven .claimed s t ∧
            t.ticket.context = s.ticket.context.map fun c => { c with
              assent := .stopped
              spot := if s.ticket.stopFlag then .suspended (1000 * s.cfg.spotLimit) else .running (1000 * s.cfg.spotLimit)
              served := c.served.put k [] }) ∧
          ((r.assents.put k true).full = false ∨ r.phase ≠ .claimed →
            t.sched = s.sched ∧
            t.ticket.context = s.ticket.context.map fun c => { c with served := c.served.put k [] })) ∧
      (s.fromCar src k = true → r.ticket = tk → r.oven = oven → r.assents.has k = true →
        Effects (.assentFrame src tk oven k) s nothing) ∧
      (s.fromCar src k = true → r.ticket = tk → r.oven ≠ oven →
        Effects (.assentFrame src tk oven k) s (abandons .diverged)) ∧
      (s.fromCar src k = false ∨ r.ticket ≠ tk → Effects (.assentFrame src tk oven k) s nothing)) ∧
    (s.handsOn src (.decline tk oven k why) = true →
      (s.fromCar src k = true → r.ticket = tk → r.oven = oven →
        Effects (.declineFrame src tk oven k why) s (abandons .declined)) ∧
      (s.fromCar src k = true → r.ticket = tk → r.oven ≠ oven →
        Effects (.declineFrame src tk oven k why) s (abandons .diverged)) ∧
      (s.fromCar src k = false ∨ r.ticket ≠ tk → Effects (.declineFrame src tk oven k why) s nothing))

/-- OPEN and GO from the claimant and STALL from a pusher move a matching record forward to OPENED, GONE and STUCK and
never back; STALL sets TICKET_STUCK when it moves it. A record so moved leaves an own oven PUSHING (R68) and acts on the
claimant's limits: at OPENED the assent limit stops and the door-off limit starts, suspended while the stop flag is set,
unless both doors of an own oven are OFF (R105, R107); at GONE and STUCK every limit stops (R106, R111). An own OPEN or GO
that returns is no longer offered (R104, R111). SPOTTED and READY from a car of their kind add its report and change
nothing else of the push. A frame that does not match, or from another sender, leaves the record. -/
def Obligations.PushFramesMoveTheRecordForward : Prop :=
  ∀ (s : State) (src : Nat) (r : Record) (k : CarKind), s.ticket.record = some r →
    let forward (p : Phase) : Phase := if r.phase.rank < p.rank then p else r.phase
    let context (t : State) (f : Context → Context) : Prop := t.ticket.context = s.ticket.context.map f
    let stands (t : State) (f : Context → Context) : Prop := t.sched = s.sched ∧ context t f
    let stopped (c : Context) : Context := { c with assent := .stopped, spot := .stopped, doorOff := .stopped }
    let openBack (c : Context) : Context := { c with openOffered := c.openOffered && src != s.own }
    let goBack (c : Context) : Context := { c with goOffered := c.goOffered && src != s.own }
    let bothOff : Prop := s.resetRecord.role = .ovens ∧
      ∃ k, s.slotOf r.oven = some k ∧ s.doorState k .pusherSide = .off ∧ s.doorState k .cokeSide = .off
    let doorOffLimit : Limit :=
      if s.ticket.stopFlag then .suspended (1000 * s.cfg.doorOffLimit) else .running (1000 * s.cfg.doorOffLimit)
    (s.handsOn src (.opening r.ticket r.oven) = true →
      Effects (.openFrame src r.ticket r.oven) s fun t =>
        t.ticket.record = some (if r.claimant = some src then { r with phase := forward .opened } else r) ∧
        (r.claimant = some src → r.phase.rank < Phase.opened.rank → ovenTakes r.oven .pushing s t ∧
          (bothOff → context t fun c => { openBack c with assent := .stopped, doorOff := .stopped }) ∧
          (¬bothOff → context t fun c => { openBack c with assent := .stopped, doorOff := doorOffLimit })) ∧
        (r.claimant = some src → Phase.opened.rank ≤ r.phase.rank → stands t openBack) ∧
        (r.claimant ≠ some src → stands t id)) ∧
    (s.handsOn src (.go r.ticket r.oven) = true →
      Effects (.goFrame src r.ticket r.oven) s fun t =>
        t.ticket.record = some (if r.claimant = some src then { r with phase := forward .gone } else r) ∧
        (r.claimant = some src → r.phase.rank < Phase.gone.rank → ovenTakes r.oven .pushing s t ∧
          context t fun c => stopped (goBack c)) ∧
        (r.claimant = some src → Phase.gone.rank ≤ r.phase.rank → stands t goBack) ∧
        (r.claimant ≠ some src → stands t id)) ∧
    (s.handsOn src (.stall r.ticket r.oven) = true →
      Effects (.stallFrame src r.ticket r.oven) s fun t =>
        t.ticket.record = some (if s.fromCar src .pusher then { r with phase := .stuck } else r) ∧
        (s.fromCar src .pusher = true → r.phase ≠ .stuck → ovenTakes r.oven .pushing s t ∧ context t stopped) ∧
        (s.fromCar src .pusher = false ∨ r.phase = .stuck → stands t id) ∧
        (s.fromCar src .pusher = true → r.phase ≠ .stuck → t.flag .ticketStuck = true) ∧
        (r.phase = .stuck → t.panel.events = s.panel.events)) ∧
    (s.handsOn src (.spotted r.ticket r.oven k) = true →
      Effects (.spottedFrame src r.ticket r.oven k) s fun t =>
        t.ticket.record = some (if s.fromCar src k then { r with reports := r.reports.addSpotted k } else r) ∧
        stands t id) ∧
    (s.handsOn src (.ready r.ticket r.oven k) = true →
      Effects (.readyFrame src r.ticket r.oven k) s fun t =>
        t.ticket.record = some
          (if k ≠ .quench ∧ s.fromCar src k = true then { r with reports := r.reports.addReady k } else r) ∧
        stands t id) ∧
    (∀ (tk : Ticket) (o : Nat), tk ≠ r.ticket ∨ o ≠ r.oven →
      (s.handsOn src (.opening tk o) = true →
        Effects (.openFrame src tk o) s fun t => t.ticket = s.ticket ∧ t.sched = s.sched) ∧
      (s.handsOn src (.go tk o) = true →
        Effects (.goFrame src tk o) s fun t => t.ticket = s.ticket ∧ t.sched = s.sched ∧ t.car = s.car) ∧
      (s.handsOn src (.stall tk o) = true →
        Effects (.stallFrame src tk o) s fun t => t.ticket = s.ticket ∧ t.panel.events = s.panel.events) ∧
      (s.handsOn src (.spotted tk o k) = true →
        Effects (.spottedFrame src tk o k) s fun t => t.ticket = s.ticket) ∧
      (s.handsOn src (.ready tk o k) = true →
        Effects (.readyFrame src tk o k) s fun t => t.ticket = s.ticket))

/-- DONE from a pusher that names the record's ticket closes it, as done when the oven matches and otherwise as abandoned
with TICKET_ABANDONED; one for a ticket later than last-done closes any record as done; each makes its ticket last-done,
asks for the station record, and at a section sets the cursor to the oven's rank and starts pacing. An own oven of a
record closed as done, by a matching or by a later DONE, is EMPTY with counts 0, and TICKET_ABANDONED is not set by it
(R70, R93); one of a record closed by a DONE for another oven is RIPE before GONE, with the claim backoff, and
OUT_OF_SERVICE after (R71, R93). A DONE at or before last-done, or from another sender, changes no ticket value. ABANDON
from its permitted sender that matches the ticket closes a record before GONE, and with reason STALLED in every phase:
TICKET_ABANDONED is set, last-done and the cursor stand, and an own oven is RIPE, or OUT_OF_SERVICE after GONE. Any other
ABANDON changes nothing and sets no event. -/
def Obligations.DoneAndAbandonCloseTheRecord : Prop :=
  (∀ (s : State) (src : Nat) (tk : Ticket) (oven : Nat), s.handsOn src (.finished tk oven) = true →
      let adopted (t : State) : Prop :=
        t.ticket.record = none ∧ t.ticket.lastDone = tk ∧ t.ticket.stopFlag = s.ticket.stopFlag ∧
        t.ticket.context = none ∧ RecordId.station ∈ t.store.wanted ∧
        (s.resetRecord.role = .ovens →
          t.sched.cursor = rankOf s.cfg oven ∧ t.ticket.pacing = some (1000 * s.cfg.pacingTime)) ∧
        (s.resetRecord.role = .car → t.sched.cursor = s.sched.cursor ∧ t.ticket.pacing = s.ticket.pacing)
      let abandonsNone (t : State) : Prop :=
        t.flag .ticketAbandoned = s.flag .ticketAbandoned ∧
        (s.resetRecord.role = .ovens → t.panel.events = s.panel.events)
      (∀ r, s.fromCar src .pusher = true → s.ticket.record = some r → r.ticket = tk →
        Effects (.doneFrame src tk oven) s fun t => adopted t ∧
          (r.oven ≠ oven → t.flag .ticketAbandoned = true ∧ ovenNotDone r s t ∧
            (r.phase.beforeGone = false → s.ticket.claim = none → t.ticket.backoff = s.ticket.backoff)) ∧
          (r.oven = oven → abandonsNone t ∧ ovenEmptied r.oven s t)) ∧
      (s.fromCar src .pusher = true → (∀ r, s.ticket.record = some r → r.ticket ≠ tk) →
        ticketLater tk s.ticket.lastDone = true →
        (s.ticket.record = none → s.ticket.context = none) →
        Effects (.doneFrame src tk oven) s fun t =>
          adopted t ∧ abandonsNone t ∧ ∀ r, s.ticket.record = some r → ovenEmptied r.oven s t) ∧
      (s.fromCar src .pusher = false ∨
        ((∀ r, s.ticket.record = some r → r.ticket ≠ tk) ∧ ticketLater tk s.ticket.lastDone = false) →
        Effects (.doneFrame src tk oven) s fun t =>
          t.ticket = s.ticket ∧ t.sched = s.sched ∧ t.door = s.door ∧ t.car = s.car)) ∧
  (∀ (s : State) (src : Nat) (tk : Ticket) (oven : Nat) (why : AbandonReason),
      s.handsOn src (.abandon tk oven why) = true →
      let permitted := if why = .stalled then s.fromCar src .pusher else s.fromSection src
      (∀ r, s.ticket.record = some r → permitted = true → r.ticket = tk → (r.phase.beforeGone = true ∨ why = .stalled) →
        Effects (.abandonFrame src tk oven why) s fun t =>
          t.ticket.record = none ∧ t.ticket.context = none ∧ t.ticket.lastDone = s.ticket.lastDone ∧
          t.sched.cursor = s.sched.cursor ∧ t.ticket.stopFlag = s.ticket.stopFlag ∧
          t.ticket.pacing = s.ticket.pacing ∧ t.flag .ticketAbandoned = true ∧ ovenNotDone r s t ∧
          (r.phase.beforeGone = false → t.ticket.backoff = s.ticket.backoff)) ∧
      (s.ticket.record = none ∨ permitted = false ∨
        (∃ r, s.ticket.record = some r ∧ (r.ticket ≠ tk ∨ (r.phase.beforeGone = false ∧ why ≠ .stalled))) →
        Effects (.abandonFrame src tk oven why) s fun t =>
          t.ticket = s.ticket ∧ t.panel.events = s.panel.events ∧ t.sched = s.sched ∧ t.car = s.car))

/-- ASPIRATE from a section at a section is admitted when the stop flag is clear, the list has room, no entry names the
oven, and for the station's own the list hold does not run. An own one not admitted sets CHARGE_REFUSED, and under the
list hold ASPIRATE_END is offered for it (R181); admitted, it makes an EMPTY oven with both doors SEALED CHARGING, and
otherwise ASPIRATE_END is offered and CHARGE_REFUSED set (R64). ASPIRATE_END takes the sender's entry for the oven from
the list and no other. An ASPIRATE of an own oven from any other station halts the station (log 30). OVEN from a peer at
a section writes the oven's roster entry when it is ABSENT, STALE or the sender's own; an entry CURRENT of a third
station is kept and CONFLICT set; an own oven halts the station. The station's own OVEN returning, and any OVEN at a car,
write nothing. -/
def Obligations.AspirationAndOvenFramesAreTaken : Prop :=
  ((∀ (s : State) (src oven : Nat), s.handsOn src (.aspirate oven) = true →
      let admitted : Prop :=
        s.ticket.stopFlag = false ∧ s.press.entries.length < s.cfg.aspirationLimit ∧
        (∀ e ∈ s.press.entries, e.oven ≠ oven) ∧ (src = s.own → s.press.listHold = none)
      (s.resetRecord.role = .car →
        Effects (.aspirateFrame src oven) s fun t => t.press = s.press ∧ t.ticket = s.ticket ∧ t.car = s.car) ∧
      (s.resetRecord.role = .ovens → src ≠ s.own → s.ownsOven oven = true →
        Effects (.aspirateFrame src oven) s fun t => t.line.state = .haltedDuplicate ∧ t.press.entries = []) ∧
      (s.resetRecord.role = .ovens → src = s.own ∨ s.ownsOven oven = false → s.fromSection src = true →
        (admitted → Effects (.aspirateFrame src oven) s fun t =>
          t.press.entries = s.press.entries ++ [⟨oven, src, 1000 * s.cfg.aspirationTime⟩] ∧ samePush s t ∧
          (src ≠ s.own → t.sched = s.sched ∧ t.panel.events = s.panel.events) ∧
          (src = s.own → ∀ k o, s.slotOf oven = some k → s.sched.ovens[k]? = some o →
            let sealed : Prop := s.doorState k .pusherSide = .sealed ∧ s.doorState k .cokeSide = .sealed
            (o.state = .empty → sealed → t.line.q2 = s.line.q2 ∧ t.panel.events = s.panel.events ∧
              t.sched.ovens = s.sched.ovens.set k
                { o with state := .charging, remaining := o.target, gross := 0, suspect := false }) ∧
            (o.state ≠ .empty ∨ ¬sealed → t.sched = s.sched ∧ t.flag .chargeRefused = true ∧
              (s.line.q2.length < 8 → t.line.q2 = s.line.q2 ++ [⟨.aspirateEnd oven, 0, false⟩])))) ∧
        (¬admitted → Effects (.aspirateFrame src oven) s fun t =>
          t.press = s.press ∧ t.sched = s.sched ∧ samePush s t ∧ (src = s.own → t.flag .chargeRefused = true) ∧
          (src = s.own → s.press.listHold.isSome = true → s.line.q2.length < 8 →
            t.line.q2 = s.line.q2 ++ [⟨.aspirateEnd oven, 0, false⟩]) ∧
          (src ≠ s.own ∨ s.press.listHold = none → t.line.q2 = s.line.q2) ∧
          (src ≠ s.own → t.panel.events = s.panel.events))) ∧
      (s.resetRecord.role = .ovens → src = s.own ∨ s.ownsOven oven = false → s.fromSection src = false →
        Effects (.aspirateFrame src oven) s fun t => t.press = s.press ∧ t.sched = s.sched)) ∧
    (∀ (s : State) (src oven : Nat), s.handsOn src (.aspirateEnd oven) = true →
      Effects (.aspirateEndFrame src oven) s fun t =>
        t.press = { s.press with entries := t.press.entries } ∧ t.sched = s.sched ∧ t.ticket = s.ticket ∧ t.door = s.door ∧
        t.panel.events = s.panel.events ∧
        (s.resetRecord.role = .ovens → s.fromSection src = true →
          ∀ e, e ∈ t.press.entries ↔ e ∈ s.press.entries ∧ ¬(e.oven = oven ∧ e.owner = src)) ∧
        (s.resetRecord.role = .car ∨ s.fromSection src = false → t.press.entries = s.press.entries))) ∧
  (∀ (s : State) (src oven minutes : Nat) (sum : Summary), s.handsOn src (.oven oven sum minutes) = true →
      s.sched.roster.length = 120 →
      (s.resetRecord.role = .car ∨ src = s.own →
        Effects (.ovenFrame src oven sum minutes) s fun t => t.sched = s.sched ∧ t.panel.events = s.panel.events) ∧
      (s.resetRecord.role = .ovens → src ≠ s.own → s.ownsOven oven = true →
        Effects (.ovenFrame src oven sum minutes) s fun t =>
          t.line.state = .haltedDuplicate ∧ t.sched.roster = s.sched.roster) ∧
      (s.resetRecord.role = .ovens → src ≠ s.own → s.ownsOven oven = false →
        ((s.rosterAt oven).state ≠ .current ∨ (s.rosterAt oven).owner = src →
          Effects (.ovenFrame src oven sum minutes) s fun t =>
            t.rosterAt oven = ⟨.current, src, sum, minutes⟩ ∧ (∀ n, n ≠ oven → t.rosterAt n = s.rosterAt n) ∧
            t.sched.ovens = s.sched.ovens ∧ t.ticket = s.ticket ∧ t.panel.events = s.panel.events) ∧
        ((s.rosterAt oven).state = .current → (s.rosterAt oven).owner ≠ src →
          Effects (.ovenFrame src oven sum minutes) s fun t => t.sched = s.sched ∧ t.flag .conflict = true)))

/-- The isolate and deflate orders for an own oven stand from the record's first phase after CLAIMED to its closing
(R101): with it, by the third ASSENT, by an OPEN, GO or STALL that finds it CLAIMED, or by the end of a start join that
adopts it in a phase after CLAIMED, each door not OFF becomes DEFLATED with its counts 0 (R163), and a later phase
changes no door. At every closing, by any DONE or ABANDON that closes it, by a later last-done of a STANDING or of a
start join, by the departure of its claimant (a STANDING of another role or kind, or silence) or by the claimant's own
withdrawal, the orders end, and each DEFLATED door becomes INFLATING, or SEALED at once with its switch asserted, the
others as they are (R164). The stop flag, a withdrawal that closes no record and HALTED(DUPLICATE) lift no order. -/
def Obligations.OrdersAreGivenAndEnd : Prop :=
  let given (d : Door) : Door :=
    if d.state = .off then d
    else { d with state := .deflated, leakCount := 0, clean := 0, attempts := 0, window := none, inflate := none,
                  deflate := none }
  (∀ (s : State) (src k : Nat) (r : Record) (pair : DoorPair), s.resetRecord.role = .ovens →
    s.ticket.record = some r → s.slotOf r.oven = some k → s.door[k]? = some pair →
    let ended (side : Side) (d : Door) : Door :=
      if d.state ≠ .deflated then d
      else if s.sealLevel (k + 1) side then
        { d with state := .sealed, leakCount := 0, clean := 0, window := some (1000 * s.cfg.leakWindow),
                 inflate := none, deflate := none }
      else
        { d with state := .inflating, leakCount := 0, clean := 0, window := none,
                 inflate := some (1000 * s.cfg.inflateLimit), deflate := none }
    let orders (t : State) : Prop :=
      t.orderStands k = true ∧ t.door = s.door.set k ⟨given pair.p, given pair.c⟩
    let gives (t : State) : Prop := orders t ∧ t.panel.events = s.panel.events
    let ends (t : State) : Prop :=
      t.orderStands k = false ∧ t.door = s.door.set k ⟨ended .pusherSide pair.p, ended .cokeSide pair.c⟩
    let stands (t : State) : Prop := t.door = s.door ∧ t.orderStands k = s.orderStands k
    (s.orderStands k = true ↔ r.phase ≠ .claimed) ∧
    (∀ kind, s.handsOn src (.assent r.ticket r.oven kind) = true → s.fromCar src kind = true →
      r.assents.has kind = false →
      (r.phase = .claimed → (r.assents.put kind true).full = true →
        Effects (.assentFrame src r.ticket r.oven kind) s gives) ∧
      (r.phase ≠ .claimed ∨ (r.assents.put kind true).full = false →
        Effects (.assentFrame src r.ticket r.oven kind) s fun t =>
          t.door = s.door ∧ t.orderStands k = s.orderStands k)) ∧
    (s.handsOn src (.opening r.ticket r.oven) = true → r.claimant = some src →
      (r.phase = .claimed → Effects (.openFrame src r.ticket r.oven) s gives) ∧
      (r.phase ≠ .claimed → Effects (.openFrame src r.ticket r.oven) s fun t =>
        t.door = s.door ∧ t.orderStands k = true)) ∧
    (s.handsOn src (.go r.ticket r.oven) = true → r.claimant = some src →
      (r.phase = .claimed → Effects (.goFrame src r.ticket r.oven) s gives) ∧
      (r.phase ≠ .claimed → Effects (.goFrame src r.ticket r.oven) s fun t =>
        t.door = s.door ∧ t.orderStands k = true)) ∧
    (s.handsOn src (.stall r.ticket r.oven) = true → s.fromCar src .pusher = true →
      (r.phase = .claimed → Effects (.stallFrame src r.ticket r.oven) s fun t =>
        orders t ∧ onlyFlag .ticketStuck s t) ∧
      (r.phase ≠ .claimed → Effects (.stallFrame src r.ticket r.oven) s fun t =>
        t.door = s.door ∧ t.orderStands k = true)) ∧
    (∀ tk oven, s.handsOn src (.finished tk oven) = true → s.fromCar src .pusher = true →
      tk = r.ticket ∨ ticketLater tk s.ticket.lastDone = true → Effects (.doneFrame src tk oven) s ends) ∧
    (∀ oven why, s.handsOn src (.abandon r.ticket oven why) = true →
      (if why = .stalled then s.fromCar src .pusher else s.fromSection src && r.phase.beforeGone) = true →
      Effects (.abandonFrame src r.ticket oven why) s ends) ∧
    (∀ b, s.handsOn src (.standing b) = true → s.peer.table.length = 31 → src ≠ s.own → s.clashes b = false →
      Effects (.standingFrame src b) s fun t =>
        let closes : Prop := (departs src b s ∧ claimantLost src r) ∨
          ((t.peerAt src).standing = .inStanding ∧ ticketLater b.common.lastDone s.ticket.lastDone = true)
        (closes → ends t) ∧ (¬closes → stands t)) ∧
    (∀ n, s.onLine = true → s.peer.table.length = 31 → (s.peerAt n).silence.isSome = true →
      let closes : Prop := (s.peerAt n).standing = .inStanding ∧ claimantLost n r
      (closes → Effects (.silenceTimerExpiry n) s ends) ∧ (¬closes → Effects (.silenceTimerExpiry n) s stands)) ∧
    (∀ a, s.line.attempt = some a → s.cfg.withdrawThreshold ≤ s.line.score + 1 →
      let closes : Prop := s.ticket.context.isSome = true ∧ r.phase.beforeGone = true
      (closes → Effects .transmitError s ends) ∧ (¬closes → Effects .transmitError s stands)) ∧
    (∀ c, s.line.state = .joining → s.peer.joinTimer.isSome = true → s.peer.startJoin = true → s.peer.choice = some c →
      ticketLater c.common.lastDone s.ticket.lastDone = true → s.ownsOven c.common.openOven = false →
      Effects .joinWindowExpiry s ends) ∧
    (∀ origin, s.handsOn src (.stop origin) = true → Effects (.stopFrame src origin) s stands) ∧
    (∀ f, s.onLine = true → (f.valid && between 1 31 src) = true → src = s.own → s.returning f = false →
      Effects (Frame.command src f) s stands)) ∧
  (∀ (s : State) (c : JoinChoice) (p : Phase) (k : Nat) (pair : DoorPair), s.resetRecord.role = .ovens →
    s.line.state = .joining → s.peer.joinTimer.isSome = true → s.peer.startJoin = true → s.peer.choice = some c →
    s.ticket.record = none → c.common.openPhase = some p → c.common.openTicket = c.common.lastDone + 1 →
    ticketLater c.common.lastDone s.ticket.lastDone = true ∨ c.common.lastDone = s.ticket.lastDone →
    s.slotOf c.common.openOven = some k → s.door[k]? = some pair →
    (p = .claimed → Effects .joinWindowExpiry s fun t => t.door = s.door ∧ t.orderStands k = false) ∧
    (p ≠ .claimed → Effects .joinWindowExpiry s fun t =>
      t.orderStands k = true ∧ t.door = s.door.set k ⟨given pair.p, given pair.c⟩))

/-- A STANDING from a peer gives its entry role, kind, oven map, period, silence timer and standing, and no other entry
changes; one that names an own oven halts the station. A greater line minute is adopted from a peer in standing, in
JOINING from any, and a later last-done from a peer in standing, which closes any record as done: an own oven it names is
EMPTY, and TICKET_ABANDONED is not set by it (R70, R94). A record that stands takes the sender as its claimant where that
was unknown and the sender's list names its oven (R49); that a sender not yet in standing counts is the model's reading
(log 21). A STANDING by which the record's claimant departs closes a record before GONE, with TICKET_ABANDONED and an own
oven RIPE (R71, R96). In a start join its stop flag is taken, and it becomes the join choice where there is none or its
last-done is later or equal (R47). Outside a start join the coking clocks jump with an adopted minute (R58), with a
record held or not. At a section the roster list of a section in standing is written in list order, an entry CURRENT of a
third station kept with CONFLICT, and an entry of the sender that the list does not name becomes ABSENT (R53). A claimant
offers ABANDON(CAR_LOST) when an assented car changes its role or kind, or no longer shows the ticket that an earlier
STANDING of the same station showed as served (R97); the served-ticket mark is set in every phase of the record, and from
GONE on no ABANDON follows (R97, R100). At a section CONFLICT is set by the STANDING with which the number of peers in
standing of a car kind becomes 2 or more (R81); that it is set at the change from below 2, and not again while the number
stays there, is the model's reading (log 29). -/
def Obligations.StandingUpdatesPeerMinuteAndTicket : Prop :=
  (∀ (s : State) (src : Nat) (b : Standing), s.handsOn src (.standing b) = true → s.peer.table.length = 31 →
    let p := s.peerAt src
    let changed : Prop := p.role ≠ some b.part.role ∨ p.kind ≠ b.part.kind
    let afresh (q : Peer) : Prop :=
      q.count = 1 ∧ q.standing = (if s.cfg.probation = 1 then .inStanding else .probation)
    (src = s.own → Effects (.standingFrame src b) s fun t =>
      t.peer = s.peer ∧ t.ticket = s.ticket ∧ t.sched = s.sched) ∧
    (src ≠ s.own → s.clashes b = true → Effects (.standingFrame src b) s fun t =>
      t.line.state = .haltedDuplicate ∧ (t.peerAt src).standing = p.standing ∧ (t.peerAt src).map = p.map) ∧
    (src ≠ s.own → s.clashes b = false → Effects (.standingFrame src b) s fun t =>
      (t.peerAt src).role = some b.part.role ∧ (t.peerAt src).kind = b.part.kind ∧
      (t.peerAt src).map = b.part.ovenMap ∧ (t.peerAt src).period = b.common.period ∧
      (t.peerAt src).silence = some (1000 * (2 * b.common.period)) ∧
      (∀ n, n ≠ src → t.peerAt n = s.peerAt n) ∧
      (p.standing = .absent ∨ p.standing = .lapsed → afresh (t.peerAt src)) ∧
      (p.standing = .probation → changed → afresh (t.peerAt src)) ∧
      (p.standing = .inStanding → changed → afresh (t.peerAt src)) ∧
      (p.standing = .probation → ¬changed → (t.peerAt src).count = p.count + 1 ∧
        (t.peerAt src).standing = if p.count + 1 = s.cfg.probation then .inStanding else .probation) ∧
      (p.standing = .inStanding → ¬changed →
        (t.peerAt src).standing = .inStanding ∧ (t.peerAt src).count = s.cfg.probation))) ∧
  (∀ (s : State) (src : Nat) (b : Standing), s.handsOn src (.standing b) = true → s.peer.table.length = 31 →
    src ≠ s.own → s.clashes b = false →
    Effects (.standingFrame src b) s fun t =>
      let trusted : Prop := (t.peerAt src).standing = .inStanding
      (s.peer.lineMinute < b.common.lineMinute → trusted ∨ s.line.state = .joining →
        t.peer.lineMinute = b.common.lineMinute ∧ t.peer.timeBaseMs = 0) ∧
      (b.common.lineMinute ≤ s.peer.lineMinute ∨ (¬trusted ∧ s.line.state ≠ .joining) →
        t.peer.lineMinute = s.peer.lineMinute ∧ t.peer.timeBaseMs = s.peer.timeBaseMs) ∧
      (trusted → ticketLater b.common.lastDone s.ticket.lastDone = true →
        t.ticket.lastDone = b.common.lastDone ∧ t.ticket.record = none ∧ RecordId.station ∈ t.store.wanted ∧
        (s.resetRecord.role = .ovens → t.ticket.pacing = some (1000 * s.cfg.pacingTime) ∧
          t.sched.cursor = if b.part.role = .ovens then b.common.cursor else s.sched.cursor)) ∧
      (¬trusted ∨ ticketLater b.common.lastDone s.ticket.lastDone = false →
        t.ticket.lastDone = s.ticket.lastDone ∧ t.sched.cursor = s.sched.cursor) ∧
      (∀ r, s.ticket.record = some r → ¬(departs src b s ∧ claimantLost src r) →
        ¬trusted ∨ ticketLater b.common.lastDone s.ticket.lastDone = false →
        ∃ abandonOffered, t.ticket.record = some { r with
          claimant := if r.claimant = none ∧ r.oven ∈ b.part.ovenMap then some src else r.claimant
          abandonOffered := abandonOffered } ∧
          (s.ticket.context = none ∨ r.abandonOffered = true → abandonOffered = r.abandonOffered)) ∧
      (s.ticket.record = none → t.flag .ticketAbandoned = s.flag .ticketAbandoned) ∧
      (∀ r, s.ticket.record = some r →
        let lapses : Prop := departs src b s ∧ claimantLost src r
        (lapses → t.ticket.record = none ∧ t.ticket.context = none ∧ t.flag .ticketAbandoned = true ∧
          (b.common.lineMinute ≤ s.peer.lineMinute → ovenNotDone r s t)) ∧
        (¬lapses → t.flag .ticketAbandoned = s.flag .ticketAbandoned ∧
          (trusted → ticketLater b.common.lastDone s.ticket.lastDone = true →
            t.ticket.context = none ∧ ovenEmptied r.oven s t))) ∧
      (s.line.state = .joining → s.peer.startJoin = true →
        t.peer.heard = true ∧
        (s.peer.choice = none → t.peer.choice = some ⟨b.common, b.part.role⟩) ∧
        (∀ c, s.peer.choice = some c →
          let replaces : Prop :=
            ticketLater b.common.lastDone c.common.lastDone = true ∨ b.common.lastDone = c.common.lastDone
          (replaces → t.peer.choice = some ⟨b.common, b.part.role⟩) ∧ (¬replaces → t.peer.choice = some c)) ∧
        (b.common.stopFlag = true → t.ticket.stopFlag = true)) ∧
      (s.line.state ≠ .joining ∨ s.peer.startJoin = false → t.peer.choice = s.peer.choice ∧ t.peer.heard = s.peer.heard) ∧
      (b.common.stopFlag = false ∨ s.peer.startJoin = false → t.ticket.stopFlag = s.ticket.stopFlag)) ∧
  (∀ (s : State) (src : Nat) (b : Standing), s.handsOn src (.standing b) = true → s.peer.table.length = 31 →
    src ≠ s.own → s.clashes b = false → s.peer.startJoin = false → s.peer.lineMinute < b.common.lineMinute →
    let later : Bool := ticketLater b.common.lastDone s.ticket.lastDone
    Effects (.standingFrame src b) s fun t => (t.peerAt src).standing = .inStanding ∨ s.line.state = .joining →
      let d := b.common.lineMinute - s.peer.lineMinute
      ∀ (k : Nat) (o : Oven), s.sched.ovens[k]? = some o →
        (∀ r, s.ticket.record = some r → r.oven ≠ o.number ∨ (later = false ∧ r.claimant ≠ some src)) →
        (∀ c, s.ticket.claim = some c → c.oven ≠ o.number ∨ later = false) →
        t.sched.ovens[k]? = some (match o.state with
          | .coking => { o with
              state := if o.remaining ≤ d then .ripe else .coking
              remaining := o.remaining - d
              gross := min 4095 (o.gross + d) }
          | .ripe | .claimed | .pushing => { o with gross := min 4095 (o.gross + d) }
          | .empty | .charging | .outOfService | .unknown => o) ∧
        (o.state = .coking → o.remaining ≤ d → t.flag .ripe = true) ∧
        (s.peer.lineMinute / 10 < b.common.lineMinute / 10 → o.state = .coking ∨ o.state = .ripe →
          RecordId.ovenOf k ∈ t.store.wanted)) ∧
  (∀ (s : State) (src : Nat) (b : Standing), s.handsOn src (.standing b) = true → s.peer.table.length = 31 →
    s.sched.roster.length = 120 → src ≠ s.own → s.clashes b = false →
    Effects (.standingFrame src b) s fun t =>
      let trusted : Prop := (t.peerAt src).standing = .inStanding
      (s.resetRecord.role = .car → t.sched.roster = s.sched.roster) ∧
      (b.part.role = .car → s.resetRecord.role = .ovens →
        ((s.peerAt src).standing = .inStanding → (s.peerAt src).role = some .ovens →
          t.sched.roster = s.sched.roster.map fun e =>
            if e.state = .current ∧ e.owner = src then { e with state := .stale } else e) ∧
        ((s.peerAt src).standing ≠ .inStanding ∨ (s.peerAt src).role ≠ some .ovens → t.sched.roster = s.sched.roster)) ∧
      (∀ items n, b.part = .ofSection items → s.resetRecord.role = .ovens → 1 ≤ n → n ≤ 120 →
        let e := s.rosterAt n
        let named := items.filter fun i => i.oven == n
        (¬trusted → (s.peerAt src).standing ≠ .inStanding → t.rosterAt n = e) ∧
        (∀ i, trusted → named.getLast? = some i →
          (e.state ≠ .current ∨ e.owner = src → t.rosterAt n = ⟨.current, src, i.summary, i.minutes⟩) ∧
          (e.state = .current → e.owner ≠ src → t.rosterAt n = e ∧ t.flag .conflict = true)) ∧
        (trusted → named = [] →
          t.rosterAt n = if e.state ≠ .absent ∧ e.owner = src then ⟨.absent, 0, .skip, 0⟩ else e))) ∧
  (∀ (s : State) (src : Nat) (b : Standing) (r : Record) (c : Context) (k : CarKind),
    s.handsOn src (.standing b) = true → s.peer.table.length = 31 → src ≠ s.own → s.clashes b = false →
    s.line.state = .active → s.ticket.record = some r → s.ticket.context = some c → r.claimant ≠ none →
    r.phase.beforeGone = true → r.abandonOffered = false → r.assents.has k = true → s.line.q0.length < 4 →
    (s.peerAt src).standing = .inStanding → (s.peerAt src).role = some .car → (s.peerAt src).kind = some k →
    ticketLater b.common.lastDone s.ticket.lastDone = false →
    let lost : Prop := Effects (.standingFrame src b) s fun t =>
      t.ticket.record = some { r with abandonOffered := true } ∧
      t.ticket.context.map (fun x => (x.assent, x.spot, x.doorOff)) = some (.stopped, .stopped, .stopped) ∧
      t.line.q0.getLast? = some ⟨.abandon r.ticket r.oven .carLost, 0, false⟩
    (b.part.role ≠ .car ∨ b.part.kind ≠ some k → r.claimant ≠ some src → lost) ∧
    (∀ position state quench served, b.part = .ofCar k position state quench served →
      (served = some r.ticket → Effects (.standingFrame src b) s fun t => t.ticket.record = some r ∧
        ∃ c', t.ticket.context = some c' ∧ src ∈ c'.served.of k) ∧
      (served ≠ some r.ticket → src ∈ c.served.of k → lost) ∧
      (served ≠ some r.ticket → src ∉ c.served.of k →
        Effects (.standingFrame src b) s fun t => t.ticket.record = some r ∧ t.ticket.context = some c))) ∧
  (∀ (s : State) (src : Nat) (b : Standing) (r : Record) (c : Context) (k : CarKind),
    s.handsOn src (.standing b) = true → s.peer.table.length = 31 → src ≠ s.own → s.clashes b = false →
    s.line.state ≠ .joining ∨ s.peer.startJoin = false → s.ticket.record = some r → s.ticket.context = some c →
    r.claimant ≠ none → r.phase.beforeGone = false → r.assents.has k = true → (s.peerAt src).standing = .inStanding →
    (s.peerAt src).role = some .car → (s.peerAt src).kind = some k →
    ticketLater b.common.lastDone s.ticket.lastDone = false →
    (b.part.role ≠ .car ∨ b.part.kind ≠ some k →
      Effects (.standingFrame src b) s fun t => t.ticket.record = some r ∧ t.line.q0 = s.line.q0) ∧
    (∀ position state quench served, b.part = .ofCar k position state quench served →
      Effects (.standingFrame src b) s fun t => t.ticket.record = some r ∧ t.line.q0 = s.line.q0 ∧
        (served = some r.ticket →
          ∃ marks, t.ticket.context = some { c with served := marks } ∧ src ∈ marks.of k) ∧
        (served ≠ some r.ticket → t.ticket.context = some c))) ∧
  (∀ (s : State) (src : Nat) (b : Standing), s.handsOn src (.standing b) = true → s.peer.table.length = 31 →
    src ≠ s.own → s.clashes b = false →
    Effects (.standingFrame src b) s fun t =>
      let second (k : CarKind) : Prop := s.kindCount k < 2 ∧ 2 ≤ t.kindCount k
      (∀ k, s.resetRecord.role = .ovens → second k → t.flag .conflict = true) ∧
      (b.part.role = .car → s.resetRecord.role = .car ∨ (∀ k, ¬second k) → t.flag .conflict = s.flag .conflict))

/-! ### Timers of the peer and ticket units -/

/-- A silence timer's expiry makes the peer LAPSED with count 0 and its other fields kept, counts LAPSES and sets
PEER_LAPSED. From IN_STANDING the departure closes a record before GONE whose claimant it was, with TICKET_ABANDONED and
an own oven RIPE, makes the claimant of a record that a car of its kind has assented to offer ABANDON(CAR_LOST), and
makes a section's CURRENT roster entries STALE; from PROBATION nothing more happens. A stopped timer does nothing. -/
def Obligations.SilenceExpiryLapsesThePeer : Prop :=
  ∀ (s : State) (n : Nat), s.peer.table.length = 31 →
    (s.onLine = true → (s.peerAt n).silence.isSome = true →
      Effects (.silenceTimerExpiry n) s fun t =>
        t.peerAt n = { s.peerAt n with standing := .lapsed, count := 0, silence := none } ∧
        (∀ m, m ≠ n → t.peerAt m = s.peerAt m) ∧ t.peer.lineMinute = s.peer.lineMinute ∧
        t.line.counters.lapses = min 65535 (s.line.counters.lapses + 1) ∧ t.flag .peerLapsed = true ∧
        t.ticket.lastDone = s.ticket.lastDone ∧ t.sched.cursor = s.sched.cursor ∧
        ((s.peerAt n).standing ≠ .inStanding → t.ticket = s.ticket ∧ t.sched = s.sched ∧ t.car = s.car) ∧
        ((s.peerAt n).standing = .inStanding →
          (∀ r, s.ticket.record = some r → r.claimant = some n → r.phase.beforeGone = true →
            t.ticket.record = none ∧ t.ticket.context = none ∧ t.flag .ticketAbandoned = true ∧ ovenNotDone r s t) ∧
          (∀ r, s.ticket.record = some r → r.claimant ≠ some n ∨ r.phase.beforeGone = false →
            ∃ r', t.ticket.record = some r' ∧ r'.ticket = r.ticket ∧ r'.oven = r.oven ∧ r'.phase = r.phase) ∧
          (∀ r k, s.ticket.record = some r → s.ticket.context.isSome = true → r.claimant ≠ some n →
            r.phase.beforeGone = true → r.abandonOffered = false → (s.peerAt n).role = some .car →
            (s.peerAt n).kind = some k →
            (r.assents.has k = false → t.ticket = s.ticket) ∧
            (r.assents.has k = true → s.line.q0.length < 4 →
              t.ticket.record = some { r with abandonOffered := true } ∧
              t.line.q0.getLast? = some ⟨.abandon r.ticket r.oven .carLost, 0, false⟩)) ∧
          (s.resetRecord.role = .ovens → (s.peerAt n).role = some .ovens →
            t.sched.roster = s.sched.roster.map fun e =>
              if e.state = .current ∧ e.owner = n then { e with state := .stale } else e))) ∧
    (s.onLine = false ∨ (s.peerAt n).silence = none → Ignored (.silenceTimerExpiry n) s)

/-- In ACTIVE each expiry of the standing-period timer offers a STANDING built at that moment in place of any pending one
and restarts the timer, with nothing else changed; outside ACTIVE or with the timer stopped nothing happens. The
STANDING carries the values in force, 0, 0 and no record when there is none, and cursor 0 at a car. The pacing and
backoff timers stop at their expiry and nothing else changes. The assent limit's expiry in CLAIMED, the spot limit's
in ASSENTED or OPENED and the door-off limit's before GONE make the claimant offer ABANDON with NO_ASSENT, NOT_SPOTTED
or DOOR_TIMEOUT, set the mark and stop every limit. Timers that do not run do nothing. -/
def Obligations.StandingPeriodAndClaimTimersExpire : Prop :=
  (∀ s : State,
      (s.line.state = .active → s.peer.standingTimer.isSome = true →
        Completes .standingPeriodExpiry s fun t =>
          t.line.q3 = [⟨.standing s.buildStanding, 0, false⟩] ∧ t.line.q0 = s.line.q0 ∧ t.line.q1 = s.line.q1 ∧
          t.line.q2 = s.line.q2 ∧ t.line.counters = s.line.counters ∧ t.line.state = s.line.state ∧
          t = { s with line := t.line, peer := { s.peer with standingTimer := some (1000 * s.cfg.standingPeriod) } }) ∧
      (s.line.state ≠ .active ∨ s.peer.standingTimer = none → Ignored .standingPeriodExpiry s) ∧
      (let b := s.buildStanding
       b.common.lineMinute = s.peer.lineMinute ∧ b.common.lastDone = s.ticket.lastDone ∧
       b.common.stopFlag = s.ticket.stopFlag ∧ b.common.period = s.cfg.standingPeriod ∧
       (s.ticket.record = none → b.common.openTicket = 0 ∧ b.common.openOven = 0 ∧ b.common.openPhase = none) ∧
       (∀ r, s.ticket.record = some r →
         b.common.openTicket = r.ticket ∧ b.common.openOven = r.oven ∧ b.common.openPhase = some r.phase) ∧
       (s.resetRecord.role = .ovens → b.common.cursor = s.sched.cursor ∧
         b.part = .ofSection (s.sched.ovens.map fun o => ⟨o.number, o.summary, min 1023 o.remaining⟩)) ∧
       (s.resetRecord.role = .car → b.common.cursor = 0 ∧
         b.part = .ofCar s.cfg.carKind s.car.position s.car.state
           (if s.cfg.carKind = .quench then some s.car.quench else none) s.car.served))) ∧
  (∀ s : State,
      (s.ticket.pacing.isSome = true → Effects .pacingTimerExpiry s fun t =>
        t = { s with ticket := { s.ticket with pacing := none } }) ∧
      (s.ticket.pacing = none → Ignored .pacingTimerExpiry s) ∧
      (s.ticket.backoff.isSome = true → Effects .claimBackoffExpiry s fun t =>
        t = { s with ticket := { s.ticket with backoff := none } }) ∧
      (s.ticket.backoff = none → Ignored .claimBackoffExpiry s) ∧
      (∀ c, s.ticket.context = some c →
        (c.assent.isRunning = false → Ignored .assentLimitExpiry s) ∧
        (c.spot.isRunning = false → Ignored .spotLimitExpiry s) ∧
        (c.doorOff.isRunning = false → Ignored .doorOffLimitExpiry s)) ∧
      (s.ticket.context = none →
        Ignored .assentLimitExpiry s ∧ Ignored .spotLimitExpiry s ∧ Ignored .doorOffLimitExpiry s) ∧
      (∀ c r, s.ticket.context = some c → s.ticket.record = some r → r.abandonOffered = false →
        let abandons (why : AbandonReason) (t : State) : Prop :=
          t.ticket.record = some { r with abandonOffered := true } ∧
          t.ticket.context.map (fun x => (x.assent, x.spot, x.doorOff)) = some (.stopped, .stopped, .stopped) ∧
          t.ticket.lastDone = s.ticket.lastDone ∧ t.ticket.stopFlag = s.ticket.stopFlag ∧ t.sched = s.sched ∧
          t.door = s.door ∧
          (s.onLine = true → s.line.q0.length < 4 →
            t.line.q0.getLast? = some ⟨.abandon r.ticket r.oven why, 0, false⟩)
        (c.assent.isRunning = true →
          (r.phase = .claimed → Effects .assentLimitExpiry s (abandons .noAssent)) ∧
          (r.phase ≠ .claimed → Effects .assentLimitExpiry s fun t =>
            t = { s with ticket := { s.ticket with context := some { c with assent := .stopped } } })) ∧
        (c.spot.isRunning = true →
          (r.phase = .assented ∨ r.phase = .opened → Effects .spotLimitExpiry s (abandons .notSpotted)) ∧
          (r.phase ≠ .assented → r.phase ≠ .opened → Effects .spotLimitExpiry s fun t =>
            t = { s with ticket := { s.ticket with context := some { c with spot := .stopped } } })) ∧
        (c.doorOff.isRunning = true →
          (r.phase.beforeGone = true → Effects .doorOffLimitExpiry s (abandons .doorTimeout)) ∧
          (r.phase.beforeGone = false → Effects .doorOffLimitExpiry s fun t =>
            t = { s with ticket := { s.ticket with context := some { c with doorOff := .stopped } } }))))

/-- When the join window ends the station is ACTIVE with a STANDING offered and the standing period started. A rejoin
keeps the ticket values. A start join takes a later chosen last-done with its open ticket and, from a section, its
cursor, and closes a record it holds as done: TICKET_ABANDONED is not set by it, and an own oven that no record adopted
names is EMPTY (R49, R70); at a section pacing starts (R85). An equal one gives the cursor, and the record where none is
held; an earlier one, or none, gives nothing. An adopted record has empty sets and as its claimant the station itself for
an own oven, else the station whose oven map names the oven, the lowest-numbered where several do (the model's choice,
log 35), else none (R49). For an own oven that follows it CLAIMED or PUSHING, with every limit stopped and before GONE
with ABANDON(OWNER_RESTART) offered (R117). It moves the counts of each restored COKING or RIPE oven by the minutes since
its record was saved (R50), asks for every own oven's record, and with no STANDING heard flags those ovens suspect and
sets CLOCK_SUSPECT. An UNHOMED car with no stall held begins to home. -/
def Obligations.JoinWindowEndsTheJoin : Prop :=
  ∀ s : State,
    (s.line.state ≠ .joining ∨ s.peer.joinTimer = none → Ignored .joinWindowExpiry s) ∧
    (s.line.state = .joining → s.peer.joinTimer.isSome = true →
      Effects .joinWindowExpiry s fun t =>
        let names (r : Option Record) : Option (Ticket × Nat × Phase) := r.map fun x => (x.ticket, x.oven, x.phase)
        let offered (c : StandingCommon) : Option (Ticket × Nat × Phase) :=
          match c.openPhase with
          | some p => if c.openTicket = c.lastDone + 1 then some (c.openTicket, c.openOven, p) else none
          | none => none
        t.line.state = .active ∧ t.peer.joinTimer = none ∧ t.peer.startJoin = false ∧
        t.peer.standingTimer = some (1000 * s.cfg.standingPeriod) ∧ t.ticket.stopFlag = s.ticket.stopFlag ∧
        (∃ b, t.line.q3 = [⟨.standing b, 0, false⟩] ∧ b.common.lastDone = t.ticket.lastDone ∧
          b.common.lineMinute = s.peer.lineMinute ∧ b.common.openPhase = t.ticket.record.map (·.phase)) ∧
        (s.resetRecord.role = .car → s.car.state = .unhomed → s.car.served = none → t.car.stallHeld = false →
          t.car.state = .homing ∧ (∃ m ∈ t.car.queue, m.purpose = .home)) ∧
        (s.peer.startJoin = false → t.ticket = s.ticket ∧ t.sched = s.sched) ∧
        (s.peer.startJoin = true →
          t.peer.choice = none ∧ (s.peer.heard = false → t.flag .clockSuspect = true) ∧
          (s.peer.choice = none → t.ticket = s.ticket ∧ t.sched.cursor = s.sched.cursor) ∧
          (∀ k o, s.sched.ovens[k]? = some o → s.ticket.record = none → s.ticket.claim = none →
            (∀ c, s.peer.choice = some c → c.common.openOven ≠ o.number) →
            let d := s.peer.lineMinute - o.savedMinute
            let cooks : Prop := o.restored = true ∧ (o.state = .coking ∨ o.state = .ripe)
            RecordId.ovenOf k ∈ t.store.wanted ∧ (¬cooks → t.sched.ovens[k]? = some o) ∧
            (cooks → t.sched.ovens[k]? = some { o with
                state := if o.state = .coking ∧ d < o.remaining then .coking else .ripe
                remaining := if o.state = .coking then o.remaining - d else o.remaining
                gross := min 4095 (o.gross + d)
                suspect := if s.peer.heard then o.suspect else true } ∧
              (o.state = .coking → o.remaining ≤ d → t.flag .ripe = true))) ∧
          (∀ c, s.peer.choice = some c →
            let cursor := if s.resetRecord.role = .ovens ∧ c.role = .ovens then c.common.cursor else s.sched.cursor
            (ticketLater c.common.lastDone s.ticket.lastDone = true →
              t.ticket.lastDone = c.common.lastDone ∧ t.sched.cursor = cursor ∧
              names t.ticket.record = offered c.common ∧ RecordId.station ∈ t.store.wanted ∧
              t.flag .ticketAbandoned = s.flag .ticketAbandoned ∧
              (s.resetRecord.role = .ovens → t.ticket.pacing = some (1000 * s.cfg.pacingTime)) ∧
              (∀ r, s.ticket.record = some r → (∀ x, offered c.common = some x → x.2.1 ≠ r.oven) →
                ovenEmptied r.oven s t)) ∧
            (c.common.lastDone = s.ticket.lastDone →
              t.ticket.lastDone = s.ticket.lastDone ∧ t.sched.cursor = cursor ∧
              names t.ticket.record =
                if s.ticket.record.isSome then names s.ticket.record else offered c.common) ∧
            (ticketLater c.common.lastDone s.ticket.lastDone = false → c.common.lastDone ≠ s.ticket.lastDone →
              t.ticket = s.ticket ∧ t.sched.cursor = s.sched.cursor) ∧
            (∀ p, c.common.openPhase = some p → c.common.openTicket = c.common.lastDone + 1 →
              ticketLater c.common.lastDone s.ticket.lastDone = true ∨
                (c.common.lastDone = s.ticket.lastDone ∧ s.ticket.record = none) →
              let oven := c.common.openOven
              let own : Prop := s.resetRecord.role = .ovens ∧ s.ownsOven oven = true
              ∃ r, t.ticket.record = some r ∧ r.ticket = c.common.openTicket ∧ r.oven = oven ∧ r.phase = p ∧
                r.assents = ⟨false, false, false⟩ ∧ r.reports = ⟨false, false, false, false, false⟩ ∧
                (own → r.claimant = some s.own) ∧
                (¬own → s.peer.table.length = 31 → (∀ n, 1 ≤ n → oven ∉ (s.peerAt n).map) → r.claimant = none) ∧
                (¬own → s.peer.table.length = 31 → ∀ n, 1 ≤ n → oven ∈ (s.peerAt n).map →
                  (∀ m, 1 ≤ m → m < n → oven ∉ (s.peerAt m).map) → r.claimant = some n) ∧
                (¬own → t.ticket.context = none ∧ r.abandonOffered = false) ∧
                (own → r.abandonOffered = p.beforeGone ∧
                  t.ticket.context.map (fun x => (x.assent, x.spot, x.doorOff)) = some (.stopped, .stopped, .stopped) ∧
                  (∀ k o, s.slotOf oven = some k → s.sched.ovens[k]? = some o →
                    (t.sched.ovens[k]?).map (·.state) =
                      some (if p = .claimed ∨ p = .assented then .claimed else .pushing)) ∧
                  (p.beforeGone = true → s.line.q0.length < 4 → t.line.q0.getLast? =
                    some ⟨.abandon c.common.openTicket oven .ownerRestart, 0, false⟩))))))

/-- Each completed minute in a running station returns the time base to 0 and advances the line minute by 1, to no
more than 16777215. Outside a start join a COKING oven loses a minute and gains a gross one and is RIPE, with the RIPE
event, when none remains; RIPE, CLAIMED and PUSHING gain a gross minute, to no more than 4095; other states stand. -/
def Obligations.LineMinuteMovesTheClocks : Prop :=
  ∀ s : State,
    (s.running = false → Ignored .lineMinuteAdvance s) ∧
    (s.running = true → 16777215 ≤ s.peer.lineMinute →
      Effects .lineMinuteAdvance s fun t => t = { s with peer := { s.peer with timeBaseMs := 0 } }) ∧
    (s.running = true → s.peer.lineMinute < 16777215 →
      Effects .lineMinuteAdvance s fun t =>
        t.peer = { s.peer with lineMinute := s.peer.lineMinute + 1, timeBaseMs := 0 } ∧ t.ticket = s.ticket ∧
        t.line = s.line ∧ t.press = s.press ∧ t.car = s.car ∧ t.door = s.door ∧ t.sched.roster = s.sched.roster ∧
        t.sched.cursor = s.sched.cursor ∧ t.sched.ovens.length = s.sched.ovens.length ∧
        ((s.peer.lineMinute + 1) % 10 = 0 → RecordId.station ∈ t.store.wanted) ∧
        (s.peer.startJoin = true → t.sched = s.sched) ∧
        (s.peer.startJoin = false → ∀ (k : Nat) (o : Oven), s.sched.ovens[k]? = some o →
          t.sched.ovens[k]? = some (match o.state with
            | .coking => { o with
                state := if o.remaining ≤ 1 then .ripe else .coking
                remaining := o.remaining - 1
                gross := min 4095 (o.gross + 1) }
            | .ripe | .claimed | .pushing => { o with gross := min 4095 (o.gross + 1) }
            | .empty | .charging | .outOfService | .unknown => o) ∧
          (o.state = .coking → o.remaining ≤ 1 → t.flag .ripe = true) ∧
          ((s.peer.lineMinute + 1) % 10 = 0 → o.state = .coking ∨ o.state = .ripe →
            RecordId.ovenOf k ∈ t.store.wanted)))

/-! ### Field lines and doors -/

/-- FIELD_INPUT_CHANGE puts the level on its pin. Where the station reads the line, a level that differs from the accepted
one starts the reject timer unless it runs, and a return to it stops the timer; no accepted level, door state,
position or flag changes. The model's choice: a line of the other role (log 36), or of no slot of the part (log 8),
changes nothing, not even its pin. -/
def Obligations.InputsPassTheRejector : Prop :=
  ∀ (s : State) (l : RejectLine) (level : Bool),
    (lineHasPin l = false ∨ s.otherRole l = true → Ignored (.fieldInputChange l level) s) ∧
    (lineHasPin l = true → s.otherRole l = false →
      Completes (.fieldInputChange l level) s fun t =>
        t.lineLevel l = level ∧ t.line = s.line ∧ t.ticket = s.ticket ∧ t.sched = s.sched ∧ t.press = s.press ∧
        t.panel.events = s.panel.events ∧ t.car.state = s.car.state ∧ t.car.position = s.car.position ∧
        t.car.queue = s.car.queue ∧ (∀ k side, t.doorState k side = s.doorState k side) ∧
        (s.rejected l = none → t.rejected l = none) ∧
        (∀ r, s.rejected l = some r →
          (level = r.accepted → t.rejected l = some ⟨r.accepted, none⟩) ∧
          (level ≠ r.accepted → r.timer = none → t.rejected l = some ⟨r.accepted, some s.cfg.noiseReject⟩) ∧
          (level ≠ r.accepted → r.timer.isSome = true → t.rejected l = some r))) ∧
    ((∀ r, s.rejected l = some r → r.timer = none ∨ s.lineLevel l = r.accepted) → Ignored (.rejectTimerExpiry l) s)

/-- A latch accepted as open makes its door OFF with every count 0 and every timer stopped; accepted as closed in OFF, it
is DEFLATED under a deflate order and otherwise INFLATING, or SEALED at once with its switch asserted. A leak change
in the counting direction counts, to no more than 1023, in SEALED and LEAKING alone. The seal switch asserted makes an
INFLATING door SEALED with a fresh leak window; lost in SEALED or LEAKING it makes it RESEATING while attempts are
below the limit and FAULT with DOOR_FAULT otherwise; elsewhere nothing. The inflate limit ends in FAULT. The deflate
timer raises the attempts and makes the door INFLATING, or SEALED with its switch asserted. At the end of a leak
window a SEALED door with more pulses than the threshold is LEAKING with DOOR_LEAK, else stays SEALED. A LEAKING door
is RESEATING or, at the reseat limit, FAULT after a leaky window; a clean one counts, and at the clean count the door
is SEALED with its attempts 0. The count returns to 0, and the window restarts unless it was left. -/
def Obligations.DoorsFollowInputsSwitchesAndTimers : Prop :=
  (∀ (s : State) (slot k : Nat) (side : Side) (pair : DoorPair) (left : Nat), s.sectionRuns = true →
      s.slotIndex slot = some k → s.door[k]? = some pair →
      let d := pair.get side
      let becomes (d' : Door) (t : State) : Prop := t.door = s.door.set k (pair.put side d') ∧ onlyDoors s t
      let latched (b : Bool) : Rejected := ⟨b, none⟩
      (d.latch = ⟨true, some left⟩ → s.lineLevel (.latch slot side) = false →
        Effects (.rejectTimerExpiry (.latch slot side)) s fun t => t.panel.events = s.panel.events ∧
          (d.state ≠ .off → becomes
            { state := .off, leakCount := 0, clean := 0, attempts := 0, window := none, inflate := none, deflate := none,
              latch := latched false, leak := d.leak } t) ∧
          (d.state = .off → becomes { d with latch := latched false } t)) ∧
      (d.latch = ⟨false, some left⟩ → s.lineLevel (.latch slot side) = true →
        Effects (.rejectTimerExpiry (.latch slot side)) s fun t => t.panel.events = s.panel.events ∧
          (d.state ≠ .off → becomes { d with latch := latched true } t) ∧
          (d.state = .off → s.orderStands k = true → becomes
            { d with state := .deflated, leakCount := 0, clean := 0, attempts := 0, window := none, inflate := none,
                     deflate := none, latch := latched true } t) ∧
          (d.state = .off → s.orderStands k = false → s.sealLevel slot side = false → becomes
            { d with state := .inflating, leakCount := 0, clean := 0, window := none,
                     inflate := some (1000 * s.cfg.inflateLimit), deflate := none, latch := latched true } t) ∧
          (d.state = .off → s.orderStands k = false → s.sealLevel slot side = true → becomes
            { d with state := .sealed, leakCount := 0, clean := 0, window := some (1000 * s.cfg.leakWindow),
                     inflate := none, deflate := none, latch := latched true } t)) ∧
      (∀ was, d.leak = ⟨was, some left⟩ → s.lineLevel (.leak slot side) = !was →
        Effects (.rejectTimerExpiry (.leak slot side)) s fun t => t.panel.events = s.panel.events ∧
          (was = s.cfg.leakFalling → d.state = .sealed ∨ d.state = .leaking →
            becomes { d with leak := latched (!was), leakCount := min 1023 (d.leakCount + 1) } t) ∧
          (was ≠ s.cfg.leakFalling ∨ (d.state ≠ .sealed ∧ d.state ≠ .leaking) →
            becomes { d with leak := latched (!was) } t))) ∧
  (∀ (s : State) (slot k : Nat) (side : Side) (pair : DoorPair), s.sectionRuns = true → between 1 8 slot = true →
      s.slotIndex slot = some k → s.door[k]? = some pair →
      let d := pair.get side
      let becomes (d' : Door) (t : State) : Prop := t.door = s.door.set k (pair.put side d')
      let still (d : Door) : Door :=
        { d with leakCount := 0, clean := 0, window := none, inflate := none, deflate := none }
      let sealed (d : Door) : Door := { still d with state := .sealed, window := some (1000 * s.cfg.leakWindow) }
      let inflating (d : Door) : Door := { still d with state := .inflating, inflate := some (1000 * s.cfg.inflateLimit) }
      let reseating (d : Door) : Door := { still d with state := .reseating, deflate := some (1000 * s.cfg.deflateTime) }
      let fault (d : Door) : Door := { still d with state := .fault }
      (∀ level, s.sealLevel slot side ≠ level →
        Effects (.sealSwitchChange slot side level) s fun t => t.sealLevel slot side = level ∧
          (level = true → d.state = .inflating → becomes (sealed d) t ∧ t.panel.events = s.panel.events) ∧
          (level = false → d.state = .sealed ∨ d.state = .leaking →
            (d.attempts < s.cfg.reseatLimit → becomes (reseating d) t ∧ t.panel.events = s.panel.events) ∧
            (s.cfg.reseatLimit ≤ d.attempts → becomes (fault d) t ∧ onlyFlag .doorFault s t)) ∧
          ((level = true ∧ d.state ≠ .inflating) ∨ (level = false ∧ d.state ≠ .sealed ∧ d.state ≠ .leaking) →
            t.door = s.door ∧ t.panel = s.panel)) ∧
      (∀ level, s.sealLevel slot side = level → Ignored (.sealSwitchChange slot side level) s) ∧
      (d.state = .inflating → d.inflate.isSome = true →
        Effects (.inflateLimitExpiry slot side) s fun t => becomes (fault d) t ∧ onlyFlag .doorFault s t ∧ onlyDoors s t) ∧
      (d.state = .reseating → d.deflate.isSome = true →
        Effects (.deflateTimerExpiry slot side) s fun t => onlyDoors s t ∧ t.panel.events = s.panel.events ∧
          (s.sealLevel slot side = false → becomes (inflating { d with attempts := d.attempts + 1 }) t) ∧
          (s.sealLevel slot side = true → becomes (sealed { d with attempts := d.attempts + 1 }) t)) ∧
      (d.state ≠ .inflating ∨ d.inflate = none → Effects (.inflateLimitExpiry slot side) s fun t => t = s) ∧
      (d.state ≠ .reseating ∨ d.deflate = none → Effects (.deflateTimerExpiry slot side) s fun t => t = s)) ∧
  (∀ (s : State) (slot k : Nat) (side : Side) (pair : DoorPair), s.sectionRuns = true →
      s.slotIndex slot = some k → s.door[k]? = some pair → (pair.get side).window.isSome = true →
      let d := pair.get side
      let next (d : Door) : Door := { d with leakCount := 0, window := some (1000 * s.cfg.leakWindow) }
      let becomes (d' : Door) (t : State) : Prop := t.door = s.door.set k (pair.put side d')
      Effects (.leakWindowExpiry slot side) s fun t => onlyDoors s t ∧
        (d.state = .sealed → d.leakCount ≤ s.cfg.leakThreshold → becomes (next d) t ∧ t.panel.events = s.panel.events) ∧
        (d.state = .sealed → s.cfg.leakThreshold < d.leakCount →
          becomes (next { d with state := .leaking, clean := 0 }) t ∧ onlyFlag .doorLeak s t) ∧
        (d.state = .leaking → d.leakCount ≤ s.cfg.leakThreshold →
          (d.clean + 1 = s.cfg.cleanCount → becomes (next { d with state := .sealed, clean := 0, attempts := 0 }) t) ∧
          (d.clean + 1 ≠ s.cfg.cleanCount → becomes (next { d with clean := d.clean + 1 }) t) ∧
          t.panel.events = s.panel.events) ∧
        (d.state = .leaking → s.cfg.leakThreshold < d.leakCount →
          (d.attempts < s.cfg.reseatLimit →
            becomes { d with state := .reseating, leakCount := 0, clean := 0, window := none, inflate := none,
                             deflate := some (1000 * s.cfg.deflateTime) } t ∧ t.panel.events = s.panel.events) ∧
          (s.cfg.reseatLimit ≤ d.attempts →
            becomes { d with state := .fault, leakCount := 0, clean := 0, window := none, inflate := none,
                             deflate := none } t ∧ onlyFlag .doorFault s t)) ∧
        (d.state ≠ .sealed → d.state ≠ .leaking → t = s))

/-- An accepted marker edge moves a MOVING car's position by one in its direction and restarts a running limit; past 0
or 255 the position is unknown and the car in FAULT; in a HOME move or another state it moves nothing. HOME accepted
ends a HOME move at position 0. STOPN accepted as asserted offers STOP(STOP_PIN). The changes back only move the
level. -/
def Obligations.CarAndStopInputsAreAccepted : Prop :=
  ∀ (s : State) (left : Nat),
    (∀ was, s.carRuns = true → s.car.marker = ⟨was, some left⟩ → s.lineLevel .marker = !was →
      Effects (.rejectTimerExpiry .marker) s fun t =>
        t.car.marker = ⟨!was, none⟩ ∧
        (was = true ∨ s.car.state ≠ .moving →
          t = { s with car := { s.car with marker := ⟨!was, none⟩ } }) ∧
        (was = false → s.car.state = .moving → s.car.homing = true →
          t.car.position = s.car.position ∧ t.car.state = .moving ∧
          (s.car.markerLimit.isSome = true → t.car.markerLimit = some (1000 * s.cfg.markerLimit))) ∧
        (∀ p, was = false → s.car.state = .moving → s.car.homing = false → s.car.position = some p →
          (s.car.direction = .fwd → p < 255 → t.car.position = some (p + 1)) ∧
          (s.car.direction = .rev → 0 < p → t.car.position = some (p - 1)) ∧
          ((s.car.direction = .fwd ∧ 255 ≤ p) ∨ (s.car.direction = .rev ∧ p = 0) →
            t.car.position = none ∧ t.car.state = .fault ∧ t.flag .carFault = true) ∧
          (∀ p', (s.car.direction = .fwd ∧ p < 255 ∧ p' = p + 1) ∨ (s.car.direction = .rev ∧ 0 < p ∧ p' = p - 1) →
            (s.car.queue.head?.bind (·.target) ≠ some p' →
              t.car.state = .moving ∧ t.car.queue = s.car.queue ∧
              (s.car.markerLimit.isSome = true → t.car.markerLimit = some (1000 * s.cfg.markerLimit))) ∧
            (s.car.queue.head?.bind (·.target) = some p' → t.car.markerLimit = none ∧ t.car.inProgress = false ∧
              t.car.state ≠ .moving)))) ∧
    (∀ was, s.carRuns = true → s.car.home = ⟨was, some left⟩ → s.lineLevel .home = !was →
      Effects (.rejectTimerExpiry .home) s fun t =>
        t.car.home = ⟨!was, none⟩ ∧
        (was = true ∨ s.car.state ≠ .moving ∨ s.car.homing = false →
          t = { s with car := { s.car with home := ⟨!was, none⟩ } }) ∧
        (was = false → s.car.state = .moving → s.car.homing = true →
          t.car.position = some 0 ∧ t.car.state = .idle ∧ t.car.markerLimit = none ∧ t.car.inProgress = false ∧
          (s.car.queue.tail ≠ [] → t.car.queue = s.car.queue.tail) ∧
          (s.car.queue.tail = [] → s.cfg.parkMarker ≠ 0 →
            t.car.queue = [⟨.park, some s.cfg.parkMarker, none⟩]))) ∧
    (∀ was, s.running = true → s.panel.stopn = ⟨was, some left⟩ → s.lineLevel .stopn = !was →
      Effects (.rejectTimerExpiry .stopn) s fun t =>
        t.panel.stopn = ⟨!was, none⟩ ∧ t.ticket.stopFlag = s.ticket.stopFlag ∧
        (was = true → t.line = s.line) ∧
        (was = false → s.onLine = true → s.line.q0.length < 4 →
          t.line.q0 = s.line.q0 ++ [⟨.stop .stopPin, 0, false⟩]) ∧
        (was = false → s.onLine = false → t.line = s.line))

/-! ### Pressure -/

/-- The scan timer starts a scan with channel 0. A raw value from 1 to 1022 gives a valid reading, raw less 512 plus the
offset clamped to -512 to 511; 0 and 1023 are a sensor fault, with SENSOR_FAULT on entry. A main reading is judged
against its captured value and the low limit, a main fault sets LOW, and the stable timer makes the main STABLE. The
reading stands while a sensor fault lasts (log 34). The settle timer stops at its expiry; at each period boundary
every applied position takes its commanded one and the positioners are driven; an aspiration entry whose time is out
leaves the list alone, with ASPIRATION_EXPIRED for an own oven still CHARGING; the list hold stops at its expiry. -/
def Obligations.ConversionsAndPressureTimers : Prop :=
  ((∀ s : State,
      (s.sectionRuns = true → s.press.scanTimer.isSome = true → exec .scanTimerExpiry s = .next
        { s with press := { s.press with converting := some 0, scanTimer := some s.cfg.scanPeriod } }) ∧
      (s.sectionRuns = false ∨ s.press.scanTimer = none → Ignored .scanTimerExpiry s) ∧
      (∀ raw, s.sectionRuns = false ∨ s.press.converting = none → Ignored (.conversionComplete raw) s) ∧
      (∀ (raw : Raw) (c : Nat) (ch : Channel), s.sectionRuns = true → s.press.converting = some c →
        s.press.channels[c]? = some ch →
        Effects (.conversionComplete raw) s fun t => onlyPress s t ∧
          t.press.converting = (if c + 1 < s.press.channels.length then some (c + 1) else none) ∧
          (∀ j, j ≠ c → t.press.channels[j]? = s.press.channels[j]?) ∧
          t.press.scanTimer = s.press.scanTimer ∧ t.press.entries = s.press.entries ∧
          (raw ≠ 0 → raw ≠ 1023 → t.press.channels[c]? = some
            ⟨raw, max (-512) (min 511 ((raw.toNat : Int) - 512 + s.cfg.channelOffsets.getD c 0)), true, false⟩) ∧
          (raw = 0 ∨ raw = 1023 → t.press.channels[c]? = some ⟨raw, ch.reading, false, true⟩ ∧
            t.flag .sensorFault = (s.flag .sensorFault || !ch.fault)) ∧
          (c = 0 → t.press.dampers = s.press.dampers) ∧ (c ≠ 0 → t.press.main = s.press.main))) ∧
    (∀ s : State, s.sectionRuns = true →
      (s.press.main.stableTimer.isSome = true → Effects .stableTimerExpiry s fun t =>
        t = { s with press := { s.press with main := { s.press.main with stable := true, stableTimer := none } } }) ∧
      (s.press.main.stableTimer = none → Ignored .stableTimerExpiry s) ∧
      (∀ (raw : Raw) (ch : Channel), s.press.converting = some 0 → s.press.channels[0]? = some ch →
        0 ≤ s.cfg.mainHysteresis →
        let m := s.press.main
        let x : Int := max (-512) (min 511 ((raw.toNat : Int) - 512 + s.cfg.channelOffsets.getD 0 0))
        let low : Bool :=
          if x < s.cfg.mainLowLimit then true
          else if s.cfg.mainLowLimit + s.cfg.mainHysteresis ≤ x then false else m.low
        Effects (.conversionComplete raw) s fun t =>
          (t.flag .mainLow = (s.flag .mainLow || (!m.low && t.press.main.low))) ∧
          (raw = 0 ∨ raw = 1023 → t.press.main = ⟨none, none, false, true⟩) ∧
          (raw ≠ 0 → raw ≠ 1023 → m.captured = none →
            t.press.main = ⟨some x, some (1000 * s.cfg.mainStableTime), m.stable, low⟩) ∧
          (∀ v, raw ≠ 0 → raw ≠ 1023 → m.captured = some v →
            (x - v ≤ s.cfg.mainHysteresis → v - x ≤ s.cfg.mainHysteresis → t.press.main = { m with low := low }) ∧
            (s.cfg.mainHysteresis < x - v ∨ s.cfg.mainHysteresis < v - x →
              t.press.main = ⟨some x, some (1000 * s.cfg.mainStableTime), false, low⟩))))) ∧
  (∀ s : State,
      (∀ slot k, s.sectionRuns = true → s.slotIndex slot = some k →
        Completes (.settleTimerExpiry slot) s fun t => onlyPress s t ∧ t.panel = s.panel ∧
          (∀ d, s.press.dampers[k]? = some d → t.press.dampers[k]? = some { d with settle := none }) ∧
          (∀ j, j ≠ k → t.press.dampers[j]? = s.press.dampers[j]?)) ∧
      (∀ slot, s.sectionRuns = false ∨ s.slotIndex slot = none → Ignored (.settleTimerExpiry slot) s) ∧
      (s.sectionRuns = true → s.press.boundary.isSome = true →
        Effects .positionerPeriodBoundary s fun t => t = { s with
          press := { s.press with
            dampers := s.press.dampers.map fun d => { d with applied := d.commanded }
            driven := true
            boundary := some 50 } }) ∧
      (s.sectionRuns = false ∨ s.press.boundary = none → Ignored .positionerPeriodBoundary s) ∧
      (∀ oven, s.sectionRuns = true → Effects (.aspirationExpiry oven) s fun t => onlyPress s t ∧
        t.press = { s.press with entries := t.press.entries } ∧
        (∀ e, e ∈ t.press.entries ↔ e ∈ s.press.entries ∧ e.oven ≠ oven) ∧
        (s.listed oven = false → t = s) ∧
        (s.ownEntry oven = true → (s.press.entries.map (·.oven)).Nodup →
          ∀ k o, s.slotOf oven = some k → s.sched.ovens[k]? = some o →
          (o.state = .charging → onlyFlag .aspirationExpired s t) ∧
          (o.state ≠ .charging → t.panel.events = s.panel.events)) ∧
        (s.ownEntry oven = false → t.panel.events = s.panel.events)) ∧
      (∀ oven, s.sectionRuns = false → Ignored (.aspirationExpiry oven) s) ∧
      (s.sectionRuns = true → exec .listHoldExpiry s = .next { s with press := { s.press with listHold := none } }) ∧
      (s.sectionRuns = false → Ignored .listHoldExpiry s))

/-- At the end of every event each damper record takes the phase its inputs give by the first row of R172 that applies,
and enters it as R173 says: CLOSED commands 0 and ASPIRATE 63 with the settle timer stopped, a stepping phase entered
from them clamps into floor to ceiling and starts it, between stepping phases nothing else changes. A conversion of a
slot's channel steps its damper by one against the setpoint of R174, within floor and ceiling, opening not while the main
is LOW, with the settle timer started; while it runs, in CLOSED and ASPIRATE and at a failed sensor none. -/
def Obligations.DampersFollowTheirOvensAndStep : Prop :=
  (∀ (s0 s : State) (k : Nat) (o : Oven) (d : Damper), s.sectionRuns = true → s.sched.ovens[k]? = some o →
    s.press.dampers[k]? = some d → s.cfg.damperFloor < s.cfg.damperCeiling →
    let row : DamperPhase :=
      if s.orderStands k then .closed
      else if o.state = .empty ∨ o.state = .outOfService ∨ o.state = .pushing then .closed
      else if o.state = .charging then
        (if s.press.entries.any (fun e => e.oven == o.number && e.owner == s.own) then .aspirate else .early)
      else if o.state = .coking ∧ o.gross < s.cfg.earlyMinutes then .early
      else .normal
    let stepping (p : DamperPhase) : Prop := p = .early ∨ p = .normal
    (s.orderStands k = true ↔ ∃ r, s.ticket.record = some r ∧ r.oven = o.number ∧ r.phase ≠ .claimed) ∧
    ∃ d', (finish s0 s).press.dampers[k]? = some d' ∧ d'.phase = row ∧ d'.applied = d.applied ∧
      (d.phase = row → d' = d) ∧
      (d.phase ≠ row → row = .closed → d'.commanded = 0 ∧ d'.settle = none) ∧
      (d.phase ≠ row → row = .aspirate → d'.commanded = 63 ∧ d'.settle = none) ∧
      (stepping row → ¬stepping d.phase → d'.settle = some (1000 * s.cfg.settleTime) ∧
        (d.commanded < s.cfg.damperFloor → d'.commanded = s.cfg.damperFloor) ∧
        (s.cfg.damperCeiling < d.commanded → d'.commanded = s.cfg.damperCeiling) ∧
        (s.cfg.damperFloor ≤ d.commanded → d.commanded ≤ s.cfg.damperCeiling → d'.commanded = d.commanded)) ∧
      (stepping row → stepping d.phase → d'.commanded = d.commanded ∧ d'.settle = d.settle)) ∧
  (∀ (s : State) (raw : Raw) (k : Nat) (ch : Channel) (d : Damper), s.sectionRuns = true →
    s.press.converting = some (k + 1) → s.press.channels[k + 1]? = some ch → s.press.dampers[k]? = some d →
    0 < s.cfg.deadband →
    let x : Int := max (-512) (min 511 ((raw.toNat : Int) - 512 + s.cfg.channelOffsets.getD (k + 1) 0))
    let leaks (side : Side) : Prop := s.doorState k side = .leaking ∨ s.doorState k side = .reseating
    let judged : Prop := raw ≠ 0 ∧ raw ≠ 1023 ∧ d.settle = none
    Effects (.conversionComplete raw) s fun t =>
      let becomes (d' : Damper) : Prop := t.press.dampers[k]? = some d'
      (∀ j, j ≠ k → t.press.dampers[j]? = s.press.dampers[j]?) ∧
      (¬judged ∨ d.phase = .closed ∨ d.phase = .aspirate → becomes d) ∧
      (∀ setpoint relief : Int, judged →
        (leaks .pusherSide ∨ leaks .cokeSide → relief = s.cfg.leakRelief) →
        (¬leaks .pusherSide → ¬leaks .cokeSide → relief = 0) →
        (d.phase = .early ∧ setpoint = s.cfg.earlySetpoint - relief ∨
          d.phase = .normal ∧ setpoint = s.cfg.normalSetpoint - relief) →
        (setpoint - s.cfg.deadband ≤ x → x ≤ setpoint + s.cfg.deadband → becomes d) ∧
        (setpoint + s.cfg.deadband < x → d.commanded < s.cfg.damperCeiling → s.press.main.low = false →
          becomes { d with commanded := d.commanded + 1, settle := some (1000 * s.cfg.settleTime) }) ∧
        (setpoint + s.cfg.deadband < x → s.cfg.damperCeiling ≤ d.commanded ∨ s.press.main.low = true → becomes d) ∧
        (x < setpoint - s.cfg.deadband → s.cfg.damperFloor < d.commanded →
          becomes { d with commanded := d.commanded - 1, settle := some (1000 * s.cfg.settleTime) }) ∧
        (x < setpoint - s.cfg.deadband → d.commanded ≤ s.cfg.damperFloor → becomes d)))

/-! ### The car -/

/-- ACT_DONE ends the running action: PULL leaves the door held and offers READY, RAM ends any stall and offers DONE, each
for the record the action was started for and none once that record has closed (R132, R135; for DONE log 24), REPLACE
puts the door back, DISCHARGE empties the car. The hot-travel limit sets HOT_DELAY; the quench timer ends in DRAINING;
the drain timer queues WHARF at the head, behind an entry in progress, and leaves the car IDLE, or in FAULT if it was; at
a full queue the tail entry is removed first, and DECLINE(QUEUE_FULL) offered for it where it is a SPOT entry of the
served ticket before GONE (R123, R146). -/
def Obligations.ActionsAndQuenchTimersEnd : Prop :=
  (∀ s : State,
    (s.carRuns = false ∨ s.car.action = none → Ignored .actDone s) ∧
    (∀ a, s.carRuns = true → s.car.action = some a →
      Effects .actDone s fun t => onlyCar s t ∧
        t.car.action = none ∧ t.car.actionLimit = none ∧ t.car.position = s.car.position ∧
        t.car.served = s.car.served ∧
        (a = .pull → t.car.state = .spotted ∧ t.car.doorHeld = true ∧ t.car.queue = s.car.queue ∧
          (s.actionRecord = none → t.line = s.line) ∧
          (∀ r, s.actionRecord = some r → queues (.ready r.ticket r.oven s.cfg.carKind) s t)) ∧
        (a = .ram → t.car.state = .spotted ∧ t.car.stallHeld = false ∧ t.car.doorHeld = s.car.doorHeld ∧
          t.car.queue = s.car.queue ∧ (s.actionRecord = none → t.line = s.line) ∧
          (∀ r, s.actionRecord = some r → queues (.finished r.ticket r.oven) s t)) ∧
        (a = .replace → t.car.state = .idle ∧ t.car.doorHeld = false ∧ t.line = s.line) ∧
        (a = .discharge → t.car.state = .idle ∧ t.car.quench = .empty ∧ t.line = s.line ∧
          (s.car.quench ≠ .empty → RecordId.station ∈ t.store.wanted)) ∧
        (a = .replace ∨ a = .discharge →
          (s.car.queue ≠ [] → t.car.queue = s.car.queue) ∧
          (∀ p, s.car.queue = [] → s.car.position = some p → p ≠ s.cfg.parkMarker →
            t.car.queue = [⟨.park, some s.cfg.parkMarker, none⟩])))) ∧
  (∀ s : State, s.carRuns = true →
    (s.car.hotTravel.isSome = true → Effects .hotTravelLimitExpiry s fun t =>
      onlyCar s t ∧ t.line = s.line ∧ t.car = { s.car with hotTravel := none } ∧ onlyFlag .hotDelay s t) ∧
    (s.car.quenchTimer.isSome = true → Effects .quenchTimerExpiry s fun t =>
      onlyCar s t ∧ t.line = s.line ∧ t.panel = s.panel ∧ t.spray = false ∧
      t.car = { s.car with
        quench := .draining
        quenchTimer := none
        drainTimer := some (1000 * s.cfg.drainTime) }) ∧
    (s.car.drainTimer.isSome = true → Effects .drainTimerExpiry s fun t =>
      onlyCar s t ∧ t.car.drainTimer = none ∧ t.car.quench = s.car.quench ∧
      t.car.state = (if s.car.state = .fault then .fault else .idle) ∧
      joinsHead ⟨.wharf, some s.cfg.wharfMarker, none⟩ s t) ∧
    (s.car.hotTravel = none → Ignored .hotTravelLimitExpiry s) ∧
    (s.car.quenchTimer = none → Ignored .quenchTimerExpiry s) ∧
    (s.car.drainTimer = none → Ignored .drainTimerExpiry s))

/-- ACT_FAULT, or the action limit, stalls a ram: STALL offered once for the record the ram was started for, while that
has not closed (log 24), the stall held, the limit stopped, ACT_START still on; that ACT_START stays on for ACT_FAULT in
HALTED(DUPLICATE) too is the model's choice (log 42). Any other action, and the marker limit
of a move, put the car in FAULT: action none, both limits stopped, no entry in progress, CAR_FAULT set, queue,
position, served ticket and door kept, and one DECLINE(FAULT) before GONE. -/
def Obligations.FailuresStallOrFaultTheCar : Prop :=
  ∀ s : State, s.carRuns = true →
    let faults (t : State) : Prop := onlyCar s t ∧
      t.car = { s.car with
        state := .fault
        action := none
        markerLimit := none
        actionLimit := none
        inProgress := false
        faultDeclined := t.car.faultDeclined } ∧
      t.flag .carFault = true ∧
      (∀ r, s.servedRecord = some r → r.phase.beforeGone = true → s.car.faultDeclined = false →
        t.car.faultDeclined = true ∧ queues (.decline r.ticket r.oven s.cfg.carKind .fault) s t) ∧
      ((s.servedRecord = none ∨ s.car.faultDeclined = true ∨ ∃ r, s.servedRecord = some r ∧ r.phase.beforeGone = false) →
        t.car.faultDeclined = s.car.faultDeclined ∧ t.line = s.line ∧ onlyFlag .carFault s t)
    let stalls (t : State) : Prop := onlyCar s t ∧
      (s.car.stallHeld = true → t = s) ∧
      (s.car.stallHeld = false →
        t.car = { s.car with stallHeld := true, actionLimit := none } ∧
        (s.actionRecord = none → t.line = s.line) ∧
        (∀ r, s.actionRecord = some r → queues (.stall r.ticket r.oven) s t))
    (s.car.action = some .ram →
      Effects .actFault s stalls ∧ (s.car.actionLimit.isSome = true → Effects .actionLimitExpiry s stalls)) ∧
    (∀ a, s.car.action = some a → a ≠ .ram →
      Effects .actFault s faults ∧ (s.car.actionLimit.isSome = true → Effects .actionLimitExpiry s faults)) ∧
    (s.car.markerLimit.isSome = true → Effects .markerLimitExpiry s faults) ∧
    (s.car.action = none → Ignored .actFault s) ∧
    (s.car.actionLimit = none → Ignored .actionLimitExpiry s) ∧
    (s.car.markerLimit = none → Ignored .markerLimitExpiry s)

/-- A car starts the head entry of its move queue when nothing holds it: toward its target, or in reverse to HOME, with
the marker limit running (R124, R128); where the car stands already it arrives at once, and moves that arrive at once one
after another are judged in turn, at most 8 in one event (the model's choice, log 26). A move arrives at the marker edge
that brings its target, by its purpose: SPOTTED offered, PARK, QUENCHING of a LOADED car at the tower, DISCHARGING (R125,
R141, R145, R147). STOP turns the drive off and stops the marker limit, RESUME turns it on again (R137), and while the
stop flag is set or the line is HALTED(DUPLICATE) no move and no action starts. -/
def Obligations.MovesStartAndArrive : Prop :=
  (∀ (s0 s : State) (m : Move) (rest : List Move), s.carRuns = true → s.ticket.stopFlag = false →
    s.line.state ≠ .haltedDuplicate → s.car.action = none → s.car.inProgress = false → s.car.queue = m :: rest →
    s.cfg.carKind = .quench ∨ s.car.doorHeld = false ∨ s.car.served ≠ none →
    let drives (direction : Direction) : Prop := (finish s0 s).car = { s.car with
      state := .moving
      inProgress := true
      direction := direction
      markerLimit := some (1000 * s.cfg.markerLimit) }
    let arrives (position : Nat) : Prop :=
      ∃ t, arrived m rest position s t ∧ finish s0 s = flushStore (judgeCar (s0.judgesRam s) 7 t)
    (∀ p x, m.purpose ≠ .home → m.target = some x → s.car.position = some p →
      (s.car.state = .idle ∨ (s.car.state = .spotted ∧ s.car.served = none ∧ s.car.doorHeld = false)) →
      (p < x → drives .fwd) ∧ (x < p → drives .rev) ∧ (x = p → arrives p)) ∧
    (m.purpose = .home → s.car.state = .homing →
      (s.car.home.accepted = false → drives .rev) ∧ (s.car.home.accepted = true → arrives 0))) ∧
  (∀ (s : State) (left p next : Nat) (m : Move) (rest : List Move), s.carRuns = true →
    s.car.marker = ⟨false, some left⟩ → s.lineLevel .marker = true → s.car.state = .moving → s.car.position = some p →
    (s.car.direction = .fwd ∧ p < 255 ∧ next = p + 1) ∨ (s.car.direction = .rev ∧ 0 < p ∧ next = p - 1) →
    s.car.queue = m :: rest → m.purpose ≠ .home → m.target = some next →
    Effects (.rejectTimerExpiry .marker) s (arrived m rest next s)) ∧
  (∀ (s : State) (src : Nat), s.resetRecord.role = .car →
    (∀ origin, s.handsOn src (.stop origin) = true → s.ticket.stopFlag = false →
      Effects (.stopFrame src origin) s fun t =>
        t.ticket.stopFlag = true ∧ t.fwd = false ∧ t.rev = false ∧ t.slow = false ∧
        t.car = { s.car with markerLimit := none }) ∧
    (s.handsOn src .resume = true → s.ticket.stopFlag = true → s.car.state = .moving →
      Effects (.resumeFrame src) s fun t =>
        t.ticket.stopFlag = false ∧ t.car = { s.car with markerLimit := some (1000 * s.cfg.markerLimit) } ∧
        t.fwd = decide (s.car.direction = .fwd) ∧ t.rev = decide (s.car.direction = .rev))) ∧
  (∀ s0 s : State, s.carRuns = true →
    s.ticket.stopFlag = true ∨ s.line.state = .haltedDuplicate ∨ s.car.action ≠ none →
    (finish s0 s).car = s.car ∧ (finish s0 s).line = s.line)

/-- With no action running, the stop flag clear and the line not HALTED(DUPLICATE), the end of an event starts an action:
PULL at a SPOTTED pusher or guide whose record is OPENED and that holds no door (R132), RAM at a SPOTTED pusher that holds
the door, record GONE, when the event changed the phase, the stop flag or the door held (R133; log 38), REPLACE where a
door is held and no ticket served (R135), DISCHARGE at the wharf (R147). The car is ACTING, ACT_START and ACT_CODE are on,
and the ram limit or the action limit runs (R131). -/
def Obligations.ActionsStartWhenJudged : Prop :=
  ∀ s0 s : State, s.carRuns = true → s.car.action = none → s.ticket.stopFlag = false →
    s.line.state ≠ .haltedDuplicate →
    let starts (a : Action) (code seconds : Nat) : Prop :=
      (finish s0 s).car = { s.car with
        action := some a
        actionServes := decide (a = .pull ∨ a = .ram)
        state := .acting
        actionLimit := some (1000 * seconds) } ∧
      (finish s0 s).actStart = true ∧ (finish s0 s).actCode = code ∧ (finish s0 s).line = s.line
    let judged : Prop := s0.ticket.record.map (·.phase) ≠ s.ticket.record.map (·.phase) ∨
      s0.ticket.stopFlag ≠ s.ticket.stopFlag ∨ s0.car.doorHeld ≠ s.car.doorHeld
    (∀ r, s.cfg.carKind ≠ .quench → s.car.state = .spotted → s.servedRecord = some r →
      (r.phase = .opened → s.car.doorHeld = false → starts .pull 0 s.cfg.actionLimit) ∧
      (r.phase = .gone → s.car.doorHeld = true → s.cfg.carKind = .pusher → judged → starts .ram 1 s.cfg.ramLimit) ∧
      (r.phase ≠ .opened ∨ s.car.doorHeld = true →
        r.phase ≠ .gone ∨ s.car.doorHeld = false ∨ s.cfg.carKind ≠ .pusher ∨ ¬judged →
        (finish s0 s).car = s.car)) ∧
    (s.cfg.carKind ≠ .quench → s.car.doorHeld = true → s.car.served = none → s.car.state ≠ .fault →
      starts .replace 2 s.cfg.actionLimit) ∧
    (s.cfg.carKind = .quench → s.car.quench = .discharging → s.car.state = .acting →
      starts .discharge 3 s.cfg.actionLimit)

/-- At a car, DONE and ABANDON that close the record of the served ticket release it, and a quench car goes by its phase
(R135, R143); a record the car does not serve and holds no entry for leaves the car alone. GO for the served ticket puts
an EMPTY quench car in RECEIVING, also on a record already GONE or STUCK (R142; log 40). A pusher that adopts a GONE or
STUCK record at the end of a start join holds the stall, serves the ticket, does not home, and for GONE offers STALL
(R136). -/
def Obligations.PushFramesReachTheCar : Prop :=
  (∀ (s : State) (src : Nat) (r : Record), s.resetRecord.role = .car → s.ticket.record = some r →
    let serves : Prop := s.car.served = some r.ticket
    let apart : Prop := s.car.served ≠ some r.ticket ∧ ∀ m ∈ s.car.queue, m.ticket ≠ some r.ticket
    (s.handsOn src (.finished r.ticket r.oven) = true → s.fromCar src .pusher = true →
      (serves → Effects (.doneFrame src r.ticket r.oven) s (carClosed r.ticket s)) ∧
      (apart → Effects (.doneFrame src r.ticket r.oven) s fun t => t.car = s.car)) ∧
    (∀ why, s.handsOn src (.abandon r.ticket r.oven why) = true →
      (if why = .stalled then s.fromCar src .pusher else s.fromSection src && r.phase.beforeGone) = true →
      (serves → Effects (.abandonFrame src r.ticket r.oven why) s (carClosed r.ticket s)) ∧
      (apart → Effects (.abandonFrame src r.ticket r.oven why) s fun t => t.car = s.car)) ∧
    (s.handsOn src (.go r.ticket r.oven) = true → r.claimant = some src →
      let receives : Prop := s.cfg.carKind = .quench ∧ serves ∧ s.car.quench = .empty
      (receives → Effects (.goFrame src r.ticket r.oven) s fun t =>
        t.car = { s.car with quench := .receiving } ∧ RecordId.station ∈ t.store.wanted ∧
        (s.line.attempt = none → ∀ q ∈ t.line.q1, ∀ tk o k, q.frame ≠ .spotted tk o k)) ∧
      (¬receives → Effects (.goFrame src r.ticket r.oven) s fun t => t.car = s.car))) ∧
  (∀ (s : State) (c : JoinChoice) (p : Phase), s.resetRecord.role = .car → s.line.state = .joining →
    s.peer.joinTimer.isSome = true → s.peer.startJoin = true → s.peer.choice = some c → s.ticket.record = none →
    s.car.state = .unhomed → s.car.served = none → s.car.stallHeld = false →
    c.common.openPhase = some p → c.common.openTicket = c.common.lastDone + 1 →
    ticketLater c.common.lastDone s.ticket.lastDone = true ∨ c.common.lastDone = s.ticket.lastDone →
    (s.cfg.carKind = .pusher → p = .gone ∨ p = .stuck →
      Effects .joinWindowExpiry s fun t =>
        t.car = { s.car with stallHeld := true, actionServes := true, served := some c.common.openTicket } ∧
        (p = .stuck → t.line.q0 = s.line.q0) ∧
        (p = .gone → s.line.q0.length < 4 →
          t.line.q0 = s.line.q0 ++ [⟨.stall c.common.openTicket c.common.openOven, 0, false⟩])) ∧
    (s.cfg.carKind ≠ .pusher ∨ p.beforeGone = true →
      Effects .joinWindowExpiry s fun t =>
        t.car.stallHeld = false ∧ t.car.served = none ∧ t.car.state = .homing ∧ t.line.q0 = s.line.q0))

/-- The outputs of a running station follow its units: at a section each SEALV is on in INFLATING, SEALED and LEAKING
(R151), ASPV in damper phase ASPIRATE (R178), POS drives the applied position once driven (R177); at a car FWD, REV and
SLOW follow a MOVING car's direction and nearness while its drive is on (R124, R125, R128), ACT_START and ACT_CODE its
action (R131, R2), SPRAY phase QUENCHING (R140). LEN is active during an attempt alone, and
LTX recessive outside one (R14). Every line above those named is off, and where the units do not run every line is off and
no POS is driven (R7, R12). -/
def Obligations.OutputsFollowTheUnits : Prop :=
  ∀ s : State,
    (s.sectionRuns = true →
      (∀ k pair, s.door[k]? = some pair →
        let sealOn (d : Door) : Bool := decide (d.state = .inflating ∨ d.state = .sealed ∨ d.state = .leaking)
        s.output (3 * k) = sealOn pair.p ∧ s.output (3 * k + 1) = sealOn pair.c ∧
        (∀ d, s.press.dampers[k]? = some d → s.output (3 * k + 2) = decide (d.phase = .aspirate))) ∧
      (∀ i, 3 * s.door.length ≤ i → s.output i = false) ∧
      (∀ slot, s.press.driven = false ∨ slot = 0 ∨ s.sched.ovens.length < slot → s.positioner slot = none) ∧
      (∀ k d, s.press.driven = true → k < s.sched.ovens.length → s.press.dampers[k]? = some d →
        s.positioner (k + 1) = some d.applied)) ∧
    (s.carRuns = true →
      let drives : Prop := s.car.state = .moving ∧ s.ticket.stopFlag = false ∧ s.line.state ≠ .haltedDuplicate
      let nears : Prop := ∃ m rest, s.car.queue = m :: rest ∧ (m.purpose = .home ∨
        ∃ p x, s.car.position = some p ∧ m.target = some x ∧ (p + 1 = x ∨ x + 1 = p))
      (s.output 0 = true ↔ drives ∧ s.car.direction = .fwd) ∧ (s.output 1 = true ↔ drives ∧ s.car.direction = .rev) ∧
      (s.output 2 = true ↔ drives ∧ nears) ∧ (s.output 3 = true ↔ s.car.action ≠ none) ∧
      (s.output 4 = true ↔ s.car.action = some .ram ∨ s.car.action = some .discharge) ∧
      (s.output 5 = true ↔ s.car.action = some .replace ∨ s.car.action = some .discharge) ∧
      (s.output 6 = true ↔ s.cfg.carKind = .quench ∧ s.car.quench = .quenching) ∧
      (∀ i, 6 < i → s.output i = false) ∧ (∀ slot, s.positioner slot = none)) ∧
    (s.running = false → (∀ i, s.output i = false) ∧ ∀ slot, s.positioner slot = none) ∧
    (s.lineEnable = true ↔ s.line.attempt ≠ none) ∧ (s.line.attempt = none → s.ltx = true)

/-! ### The store -/

/-- A read-back that matches puts the page's bytes in the array and goes on to the next page, or to the next queued
record, whose bytes are captured as it stands; the first mismatch writes the page once more; a second sets STORE_FAULT
and goes on, with only that page of the array in doubt. That a configuration write goes on to its next page after a
second mismatch is the model's inference (log 15). With no write in progress nothing happens. -/
def Obligations.ReadbackCompletesOrRewrites : Prop :=
  ∀ s : State,
    (∀ m, s.store.write = none → Ignored (.storeReadback m) s) ∧
    (∀ w, s.store.write = some w →
      let elsewhere (t : State) : Prop := ∀ a, a < 16 * w.page ∨ 16 * w.page + 16 ≤ a →
        Memory.read t.store.array a = Memory.read s.store.array a
      let goesOn (t : State) : Prop :=
        (∀ p b more, w.rest = (p, b) :: more → t.store.write = some ⟨p, b, false, more, 40⟩ ∧
          t.store.queue = s.store.queue) ∧
        (w.rest = [] → s.store.queue = [] → t.store.write = none) ∧
        (∀ r rest, w.rest = [] → s.store.queue = r :: rest → t.store.queue = rest ∧
          (r = .station → t.store.write = some ⟨14, stationPage s.resetRecord.role s.peer.lineMinute s.ticket.lastDone
            (if s.resetRecord.role = .ovens then s.sched.cursor else if s.car.quench = .empty then 0 else 1),
            false, [], 40⟩) ∧
          (∀ k o, r = .ovenOf k → s.sched.ovens[k]? = some o → t.store.write = some ⟨6 + k,
            ovenPage k (if s.peer.startJoin then o else { o with savedMinute := s.peer.lineMinute }), false, [], 40⟩))
      (Completes (.storeReadback true) s fun t =>
        t.store.array = Memory.writeBytes s.store.array (16 * w.page) (w.bytes.take 16) ∧ elsewhere t ∧ goesOn t ∧
        t.panel = s.panel ∧ t.line = s.line ∧ t.ticket = s.ticket ∧ t.car = s.car ∧ t.press = s.press) ∧
      (w.rewrite = false → exec (.storeReadback false) s = .next
        { s with store := { s.store with write := some { w with rewrite := true, left := 40 } } }) ∧
      (w.rewrite = true → Completes (.storeReadback false) s fun t =>
        elsewhere t ∧ goesOn t ∧ onlyFlag .storeFault s t ∧
        t.line = s.line ∧ t.ticket = s.ticket ∧ t.car = s.car ∧ t.press = s.press))

/-! ### The panel port -/

/-- Every request is judged in the order of R196: BUSY until the start sequence has ended (no answer while RSTN is held
low), RANGE for a code or count that is not of R199, REFUSED in a start halt that does not serve it, ROLE for the
other role; so answered, it has no effect. The model's choices: the time between a reset and its START_SEQUENCE counts
as the start sequence for BUSY (log 3), and every UNKNOWN_REQUEST is taken as a code or count outside R199, whatever
its operands (log 37). -/
def Obligations.RequestsAreJudgedInOrder : Prop :=
  ∀ (c : Instr) (s : State) (belongs : Belongs) (servedInHalt countOk : Bool),
    c.asked = some (belongs, servedInHalt, countOk) →
    (s.line.state = .inReset → s.pins.rstnLow = true → Ignored c s) ∧
    (s.line.state = .inReset → s.pins.rstnLow = false → Answers c s .busy []) ∧
    (s.line.state ≠ .inReset → countOk = false → Answers c s .range []) ∧
    (s.line.state = .haltedStrap ∨ s.line.state = .haltedConfig → countOk = true → servedInHalt = false →
      Answers c s .refused []) ∧
    (s.running = true → countOk = true → ∀ role, belongs = .only role → s.resetRecord.role ≠ role →
      Answers c s .role [])

/-- The panel port below the commands (R195, R199). PSDI is sampled at each rising edge of PSCK, most significant bit of a
byte first, and PSDO changes at falling edges alone. A well-formed request is taken from its code, its parameter count and
its parameters at the edge that samples the last bit of byte n + 1, by no edge before it and none after it, and is carried
out there at once: that it is the command of the table, and that the waiting commands stand meanwhile, is the model's
choice (log 31). Edges outside a transaction do nothing. PSDO presents 0 up to byte n + 1, then the answer, two bytes of
length and the data, then 0. The end of a transaction loses its answer and resets a station that has taken a RESTART. -/
def Obligations.RequestsAreTakenFromTheirBytes : Prop :=
  (∀ (c : Instr) (bytes : List Byte), c.wf = true → requestBytes c = some bytes →
    takenRequest bytes = some c ∧ (∀ n, n < bytes.length → takenRequest (bytes.take n) = none) ∧
    (∀ b more, takenRequest (bytes ++ b :: more) = none) ∧
    (∀ (s : State) (lead : List Bool) (b : Bool) (rest : List Bool), s.panel.transaction = some ⟨[], 0⟩ →
      byteBits bytes = lead ++ b :: rest →
      let sampled (bits : List Bool) (shown : Nat) : State :=
        { s with panel := { s.panel with transaction := some ⟨bits, shown⟩ } }
      State.clockIn lead s = .next (sampled lead lead.length) ∧
      (sampled lead lead.length).psckRise b =
        if rest = [] then exec c (sampled (lead ++ [b]) lead.length)
        else .next (sampled (lead ++ [b]) lead.length)) ∧
    (∀ (s : State) (more : List Bool) (shown : Nat) (b : Bool),
      s.panel.transaction = some ⟨byteBits bytes ++ more, shown⟩ →
      s.psckRise b = .next
        { s with panel := { s.panel with transaction := some ⟨byteBits bytes ++ more ++ [b], shown⟩ } })) ∧
  (∀ bytes : List Byte, byteBits bytes = bytes.flatMap fun b => (List.range 8).map fun i => b.getMsbD i) ∧
  (∀ a b c d : Byte,
    let is (code : Byte) (parameters : List Byte) (i : Instr) : Prop :=
      takenRequest (code :: BitVec.ofNat 8 parameters.length :: parameters) = some i
    let word (hi lo : Byte) : Nat := 256 * hi.toNat + lo.toNat
    is 1 [] .readStation ∧ is 2 [a] (.readOven a.toNat) ∧ is 3 [a] (.readDoors a.toNat) ∧ is 4 [] .readPressure ∧
    is 5 [] .readCar ∧ is 6 [] .readPeers ∧ is 7 [a, b] (.readRoster a.toNat b.toNat) ∧ is 8 [] .readTicket ∧
    is 9 [] .readCounts ∧ is 10 [] .readEvents ∧ is 11 [a, b] (.configRead a.toNat b.toNat) ∧
    is 16 [a] (.hold a.toNat) ∧ is 17 [a] (.release a.toNat) ∧ is 18 [a, b, c] (.setTarget a.toNat (word b c)) ∧
    is 19 [a, b, c, d] (.setOven a.toNat b.toNat (word c d)) ∧ is 20 [a] (.outOfService a.toNat) ∧
    is 21 [a] (.returnToService a.toNat) ∧ is 22 [a] (.confirmClock a.toNat) ∧ is 23 [a] (.chargeBegin a.toNat) ∧
    is 24 [a] (.chargeEnd a.toNat) ∧ is 25 [a, b] (.reseat a.toNat b.toNat) ∧ is 26 [] .clearCar ∧
    is 27 [a] (.resolve a.toNat) ∧ is 28 [] .batteryStop ∧ is 29 [] .resumeRequest ∧
    is 30 [a, b] (.configWrite a.toNat [b]) ∧ is 30 [a, b, c] (.configWrite a.toNat [b, c]) ∧ is 31 [] .restart ∧
    is 32 [a, b, c] (.ackEvents (a ++ b ++ c)) ∧ is 33 [a, b, c] (.setMask (a ++ b ++ c)) ∧
    is 0 [] (.unknownRequest 0 0) ∧ is 1 [a] (.unknownRequest 1 1) ∧ is 30 [a] (.unknownRequest 30 1)) ∧
  (∀ (s : State) (code n : Byte) (more : List Byte) (part : List Bool) (r : Reply) (k i : Nat),
    s.panel.transaction = some ⟨byteBits (code :: n :: more) ++ part, 8 * k + i⟩ → part.length < 8 → i < 8 →
    s.panel.reply = some r → r.data.length < 65536 →
    let first := n.toNat + 2
    let shows (b : Byte) : Prop := s.psdo = some (b.getMsbD i)
    (k < first → shows 0) ∧ (k = first → shows (BitVec.ofNat 8 r.answer.code)) ∧
    (k = first + 1 → shows (BitVec.ofNat 8 (r.data.length / 256))) ∧
    (k = first + 2 → shows (BitVec.ofNat 8 r.data.length)) ∧
    (∀ j b, r.data[j]? = some b → k = first + 3 + j → shows b) ∧
    (first + 3 + r.data.length ≤ k → shows 0)) ∧
  ([Answer.accepted, .busy, .refused, .range, .role].map Answer.code = [0, 1, 2, 3, 4]) ∧
  (∀ (s : State) (t : Transaction), s.panel.transaction = some t →
    s.psckFall = { s with panel := { s.panel with transaction := some { t with shown := t.bits.length } } } ∧
    (t.bits.length < 16 ∨ s.panel.reply = none → s.psdo = some false) ∧
    (∀ b u, t.shown ≤ t.bits.length → s.psckRise b = .next u → u.psdo = s.psdo)) ∧
  (∀ s : State,
    (s.panel.transaction = none → s.psdo = none ∧ s.psckFall = s ∧ ∀ b, s.psckRise b = .next s) ∧
    (s.line.state ≠ .inReset ∨ s.pins.rstnLow = false →
      s.selectPanel = { s with panel := { s.panel with transaction := some ⟨[], 0⟩, reply := none } }) ∧
    (s.line.state = .inReset → s.pins.rstnLow = true → s.selectPanel = s) ∧
    (s.panel.restartPending = false →
      s.deselectPanel = .next { s with panel := { s.panel with transaction := none, reply := none } }) ∧
    (s.panel.restartPending = true →
      ∃ t, s.deselectPanel = .next t ∧ afterReset .panel s.pins.rstnLow s t ∧ arrayAcrossReset s t) ∧
    (∀ u, s.line.state ≠ .inReset → s.panel.transaction = some ⟨[], 0⟩ →
      State.clockIn (byteBits [31, 0]) s = .next u → u.panel.reply = some ⟨.accepted, []⟩ ∧
      ∃ t, u.deselectPanel = .next t ∧ afterReset .panel s.pins.rstnLow s t ∧ arrayAcrossReset s t))

/-- In a station that runs, each read is ACCEPTED with the data of the units it names as they stand, and changes nothing
else; an oven not the station's own and ranges out of bounds are answered RANGE. READ_STATION, READ_EVENTS and
CONFIG_READ are so answered in a start halt too (R12). CONFIG_READ returns the block as stored; a byte of a page that is
being written meanwhile is free (log 14). READ_EVENTS returns the flags and then the mask, 3 bytes each, READ_ROSTER 5
bytes an entry. The fields of READ_STATION, READ_OVEN, READ_DOORS, READ_PEERS and READ_ROSTER stand in the order of R197,
"none" and a stopped timer as all ones, and so do the first fields of READ_TICKET, READ_CAR and READ_PRESSURE. Where R197
leaves the bytes of a field open, they are the model's choice (log 16). -/
def Obligations.ReadsAnswerTheirData : Prop :=
  (∀ s : State, s.running = true ∨ s.startHalt = true →
    Answers .readStation s .accepted (stationData s) ∧
    Answers .readEvents s .accepted (toBytes 3 s.panel.events.toNat ++ toBytes 3 s.panel.mask.toNat) ∧
    (∀ offset count, count = 0 ∨ 96 < count ∨ 95 < offset + count - 1 →
      Answers (.configRead offset count) s .range []) ∧
    (∀ offset count, 1 ≤ count → count ≤ 96 → offset + count - 1 ≤ 95 →
      (s.store.write = none → Answers (.configRead offset count) s .accepted
        ((List.range count).map fun i => Memory.read s.store.array (offset + i))) ∧
      (∀ w, s.store.write = some w → Completes (.configRead offset count) s fun t => ∃ data : List Byte,
        t = { s with fresh := s.fresh + 1, panel := { s.panel with reply := some ⟨.accepted, data⟩ } } ∧
        data.length = count ∧ ∀ i, i < count → (offset + i) / 16 ≠ w.page →
          data[i]? = some (Memory.read s.store.array (offset + i))))) ∧
  (∀ s : State, s.running = true →
    Answers .readPeers s .accepted (peersData s) ∧ Answers .readTicket s .accepted (ticketData s) ∧
    (s.resetRecord.role = .car → Answers .readCar s .accepted (carData s)) ∧
    (s.resetRecord.role = .ovens →
      Answers .readPressure s .accepted (pressureData s) ∧
      (∀ oven k o, s.slotOf oven = some k → s.sched.ovens[k]? = some o →
        Answers (.readOven oven) s .accepted (ovenData o) ∧ Answers (.readDoors oven) s .accepted (doorsData k s)) ∧
      (∀ oven, s.slotOf oven = none → Answers (.readOven oven) s .range [] ∧ Answers (.readDoors oven) s .range []) ∧
      (∀ first count, 1 ≤ first → first ≤ 120 → 1 ≤ count → count ≤ 99 → first + count - 1 ≤ 120 →
        Answers (.readRoster first count) s .accepted (rosterData first count s)) ∧
      (∀ first count, first = 0 ∨ 120 < first ∨ count = 0 ∨ 99 < count ∨ 120 < first + count - 1 →
        Answers (.readRoster first count) s .range []))) ∧
  (∀ s : State,
    let byte (n : Nat) : List Byte := toBytes 1 n
    let two (n : Nat) : List Byte := toBytes 2 n
    let three (n : Nat) : List Byte := toBytes 3 n
    let flag (b : Bool) : List Byte := if b then [1] else [0]
    let ones (n : Nat) : List Byte := List.replicate n 255
    let timer (width : Nat) (t : Timer) : List Byte :=
      match t with
      | some left => toBytes width left
      | none => ones width
    let position (l : List LineState) : Nat := l.findIdx (· == s.line.state)
    (stationData s =
      byte (position [.joining, .active, .withdrawn]) ++
      (if s.line.state = .joining ∨ s.line.state = .active ∨ s.line.state = .withdrawn ∨ s.line.state = .inReset then ones 1
        else byte (position [.haltedDuplicate, .haltedStrap, .haltedConfig])) ++
      three s.peer.lineMinute ++ byte s.peer.seconds ++ two s.ticket.lastDone.toNat ++ flag s.ticket.stopFlag ++
      flag s.panel.stopn.accepted ++
      (byte (match s.resetRecord.cause with | .powerOn => 0 | .pin => 1 | .panel => 2) ++
        byte (if s.resetRecord.role = .ovens then 0 else 1) ++ byte s.resetRecord.station ++
        (match s.resetRecord.failOffset with | some a => byte a | none => ones 1) ++ byte s.resetRecord.restored ++
        byte s.resetRecord.bad)) ∧
    (∀ o : Oven, ovenData o =
      byte o.number ++
      byte ([OvenState.empty, .charging, .coking, .ripe, .claimed, .pushing, .outOfService, .unknown].findIdx
        (· == o.state)) ++
      flag o.held ++ flag o.suspect ++ flag o.pending ++ two o.target ++ two o.remaining ++ two o.gross ++
      three o.savedMinute ++ byte ([Summary.coking, .ripe, .busy, .skip].findIdx (· == o.summary))) ∧
    (∀ k pair, s.door[k]? = some pair →
      let door (sealOn : Bool) (d : Door) : List Byte :=
        byte ([DoorState.off, .inflating, .sealed, .leaking, .reseating, .deflated, .fault].findIdx (· == d.state)) ++
        two d.leakCount ++ byte d.clean ++ byte d.attempts ++ timer 3 d.window ++ timer 2 d.inflate ++
        timer 2 d.deflate ++ flag d.latch.accepted ++ flag sealOn ++ flag d.leak.accepted
      doorsData k s = door (s.sealLevel (k + 1) .pusherSide) pair.p ++ door (s.sealLevel (k + 1) .cokeSide) pair.c) ∧
    (∀ first count, (rosterData first count s).length = 5 * count ∧
      rosterData first count s = (List.range count).flatMap fun i =>
        let e := s.rosterAt (first + i)
        byte ([RosterState.absent, .current, .stale].findIdx (· == e.state)) ++ byte e.owner ++
        byte ([Summary.coking, .ripe, .busy, .skip].findIdx (· == e.summary)) ++ two e.minutes) ∧
    (s.peer.table.length = 31 → (∀ p ∈ s.peer.table, p.map.length ≤ 8) → (peersData s).length = 496 ∧
      ∀ n, 1 ≤ n → n ≤ 31 →
        let p := s.peerAt n
        ((peersData s).drop (16 * (n - 1))).take 16 =
          byte ([PeerStanding.absent, .probation, .inStanding, .lapsed].findIdx (· == p.standing)) ++ byte p.count ++
          (match p.role with | some .ovens => [0] | some .car => [1] | none => ones 1) ++
          (match p.kind with | some k => byte ([CarKind.pusher, .guide, .quench].findIdx (· == k)) | none => ones 1) ++
          byte p.map.length ++ p.map.flatMap byte ++ ones (8 - p.map.length) ++ byte p.period ++ timer 2 p.silence) ∧
    (s.ticket.record = none →
      (ticketData s).take 11 = ones 8 ++ two s.ticket.lastDone.toNat ++ flag s.ticket.stopFlag) ∧
    (∀ r, s.ticket.record = some r → (ticketData s).take 5 =
      two r.ticket.toNat ++ byte r.oven ++ (match r.claimant with | some n => byte n | none => ones 1) ++
      byte ([Phase.claimed, .assented, .opened, .gone, .stuck].findIdx (· == r.phase))) ∧
    ((carData s).take 4 =
      byte ([CarKind.pusher, .guide, .quench].findIdx (· == s.cfg.carKind)) ++ timer 2 s.car.position ++
      byte ([CarState.unhomed, .homing, .idle, .moving, .spotted, .acting, .fault].findIdx (· == s.car.state))) ∧
    (∀ c rest, s.press.channels = c :: rest → (pressureData s).take 6 =
      two c.raw.toNat ++ toBytes 2 (c.reading % 65536).toNat ++ flag c.valid ++ flag c.fault))

/-- READ_COUNTS returns the six counters of the moment and sets all six to 0. It is served in a start halt, where the
counters stand at 0: no step makes them anything else while the receiver does not run. READ_EVENTS clears no flag. -/
def Obligations.ReadCountsTakesTheCounters : Prop :=
  (∀ s : State, s.line.state ≠ .inReset →
    exec .readCounts s = .next { s with
      line := { s.line with
        counters := { rxGood := 0, rxBad := 0, txDone := 0, txRetry := 0, txDrop := 0, lapses := 0 } }
      panel := { s.panel with
        reply := some
          { answer := .accepted
            data := toBytes 2 s.line.counters.rxGood ++ toBytes 2 s.line.counters.rxBad ++
              toBytes 2 s.line.counters.txDone ++ toBytes 2 s.line.counters.txRetry ++
              toBytes 2 s.line.counters.txDrop ++ toBytes 2 s.line.counters.lapses } } } ∧
    (s.startHalt = true → s.line.counters = ⟨0, 0, 0, 0, 0, 0⟩ →
      Completes .readCounts s fun t => t.panel.reply = some ⟨.accepted, List.replicate 12 0⟩ ∧ t.line = s.line) ∧
    (Completes .readEvents s fun t => t.panel.events = s.panel.events)) ∧
  (let atZero (s : State) : Prop := s.running = false → s.line.counters = ⟨0, 0, 0, 0, 0, 0⟩ ∧ s.line.attempt = none
   atZero State.reset ∧ ∀ s t : State, atZero s → step s = .next t → atZero t)

/-- ACK_EVENTS clears the named flags and no other, and SET_MASK replaces the mask; an unused bit set gives RANGE and
no effect. NOTICE is active exactly while a flag is set together with its mask bit. The mask is 0 after every reset.
-/
def Obligations.FlagsAreAcknowledgedAndMasked : Prop :=
  (∀ (s : State) (w : BitVec 24), s.line.state ≠ .inReset →
    (2 ^ 20 ≤ w.toNat → Answers (.ackEvents w) s .range [] ∧ Answers (.setMask w) s .range []) ∧
    (w.toNat < 2 ^ 20 →
      (Completes (.ackEvents w) s fun t =>
        (∀ e : EventFlag, t.flag e = (s.flag e && !w.getLsbD e.bit)) ∧
        t = { s with panel := { s.panel with events := t.panel.events, reply := some ⟨.accepted, []⟩ } }) ∧
      exec (.setMask w) s = .next
        { s with panel := { s.panel with mask := w.setWidth 20, reply := some ⟨.accepted, []⟩ } })) ∧
  (∀ s : State, s.notice = true ↔ ∃ e : EventFlag, s.flag e = true ∧ s.panel.mask.getLsbD e.bit = true) ∧
  (∀ s held, Completes (.powerOnReset held) s fun t => t.panel.mask = 0 ∧ t.notice = false) ∧
  (∀ s, s.pins.rstnLow = false → Completes .rstnLow s fun t => t.panel.mask = 0 ∧ t.notice = false) ∧
  (∀ s, s.panel.restartPending = true → Completes .restartReset s fun t => t.panel.mask = 0 ∧ t.notice = false) ∧
  (∀ s role stn, s.line.state = .inReset → s.panel.mask = 0 →
    Completes (.startSequence role stn) s fun t => t.panel.mask = 0 ∧ t.notice = false)

/-- BATTERY_STOP and RESUME are REFUSED in HALTED(DUPLICATE). Otherwise BATTERY_STOP is ACCEPTED and offers STOP(PANEL)
whatever the stop flag; RESUME is REFUSED while STOPN is accepted as asserted, and else ACCEPTED and offered whatever the
flag. A frame that meets a full class 0 queue is dropped, sets LINK_DROP and is not offered again. A RESUME request taken
just before STOPN is accepted stands before its STOP in the queue, from which an attempt takes the frames in that order;
with STOPN accepted first the RESUME is REFUSED and the STOP stands alone. What stood in that queue before stays ahead of
them as it was, while every frame stands in the queue of its class, as every step keeps it. A station that takes a RESUME
and then a STOP ends with the flag set. -/
def Obligations.StopAndResumeRequests : Prop :=
  ∀ s : State,
    let offers (f : Frame) (t : State) : Prop :=
      t.ticket = s.ticket ∧ t.sched = s.sched ∧ t.car = s.car ∧
      (s.line.q0.length < 4 → t = { s with line := { s.line with q0 := s.line.q0 ++ [⟨f, 0, false⟩] } }) ∧
      (4 ≤ s.line.q0.length → t.line.q0 = s.line.q0 ∧ t.line.dropped = s.line.dropped ∧ onlyFlag .linkDrop s t ∧
        t.line.counters.txDrop = min 65535 (s.line.counters.txDrop + 1))
    (s.line.state = .haltedDuplicate → Answers .batteryStop s .refused [] ∧ Answers .resumeRequest s .refused []) ∧
    (s.onLine = true → Accepts .batteryStop s (offers (.stop .panel))) ∧
    (s.onLine = true → s.panel.stopn.accepted = true → Answers .resumeRequest s .refused []) ∧
    (s.onLine = true → s.panel.stopn.accepted = false → Accepts .resumeRequest s (offers .resume)) ∧
    (∀ u v left, s.onLine = true → s.panel.stopn = ⟨false, some left⟩ → s.pins.stopnAsserted = true →
      s.line.q0.length < 3 → exec .resumeRequest s = .next u → exec (.rejectTimerExpiry .stopn) u = .next v →
      (∃ before, v.line.q0 = before ++ [⟨.resume, 0, false⟩, ⟨.stop .stopPin, 0, false⟩]) ∧
      (s.queuesOk → v.line.q0 = s.line.q0 ++ [⟨.resume, 0, false⟩, ⟨.stop .stopPin, 0, false⟩])) ∧
    (∀ v left, s.onLine = true → s.panel.stopn = ⟨false, some left⟩ → s.pins.stopnAsserted = true →
      s.line.q0.length < 4 → exec (.rejectTimerExpiry .stopn) s = .next v →
      Answers .resumeRequest v .refused [] ∧
      (s.queuesOk → v.line.q0 = s.line.q0 ++ [⟨.stop .stopPin, 0, false⟩])) ∧
    (∀ rest, s.line.state = .active → s.line.attempt = none →
      s.line.q0 = ⟨.resume, 0, false⟩ :: ⟨.stop .stopPin, 0, false⟩ :: rest →
      (Completes .attemptStart s fun t => t.line.attempt = some ⟨.resume, false⟩) ∧
      ∀ u v, exec .attemptStart s = .next u → s.line.dropped = [] → exec .attemptComplete u = .next v →
        Completes .attemptStart v fun t => t.line.attempt = some ⟨.stop .stopPin, false⟩) ∧
    (∀ src src' origin u v, s.handsOn src .resume = true → exec (.resumeFrame src) s = .next u →
      u.handsOn src' (.stop origin) = true → exec (.stopFrame src' origin) u = .next v → v.ticket.stopFlag = true)

/-- At an own oven HOLD sets the held flag and RELEASE clears it; SET_TARGET of 240 to 2400 takes the target, and
remaining from it less the gross minutes, RIPE at 0, or the whole target in CHARGING and UNKNOWN; CONFIRM_CLOCK clears
the suspect flag, of every own oven for 0. HOLD and SET_TARGET of a busy oven are answered BUSY, an oven not own
RANGE. -/
def Obligations.OperatorSetsHeldTargetAndSuspect : Prop :=
  ∀ (s : State) (oven : Nat), s.sectionRuns = true →
    (∀ target, s.slotOf oven = none →
      Answers (.hold oven) s .range [] ∧ Answers (.release oven) s .range [] ∧
      Answers (.setTarget oven target) s .range [] ∧ (oven ≠ 0 → Answers (.confirmClock oven) s .range [])) ∧
    (∀ k o, s.slotOf oven = some k → s.sched.ovens[k]? = some o →
      let becomes (o' : Oven) (t : State) : Prop := onlyOvens s t ∧ t.sched.ovens = s.sched.ovens.set k o' ∧
        (o'.state ≠ o.state ∨ o'.held ≠ o.held ∨ o'.suspect ≠ o.suspect ∨ o'.target ≠ o.target →
          RecordId.ovenOf k ∈ t.store.wanted)
      let busy : Prop := o.state = .claimed ∨ o.state = .pushing ∨ (o.state = .ripe ∧ o.pending = true)
      (busy → Answers (.hold oven) s .busy []) ∧
      (¬busy → Accepts (.hold oven) s (becomes { o with held := true })) ∧
      Accepts (.release oven) s (becomes { o with held := false }) ∧
      (oven ≠ 0 → Accepts (.confirmClock oven) s (becomes { o with suspect := false })) ∧
      (∀ target, target < 240 ∨ 2400 < target → Answers (.setTarget oven target) s .range []) ∧
      (∀ target, 240 ≤ target → target ≤ 2400 → busy → Answers (.setTarget oven target) s .busy []) ∧
      (∀ target, 240 ≤ target → target ≤ 2400 → ¬busy → Accepts (.setTarget oven target) s fun t =>
        onlyOvens s t ∧
        (o.state = .coking ∨ o.state = .ripe → target ≤ o.gross →
          t.sched.ovens = s.sched.ovens.set k { o with target := target, remaining := 0, state := .ripe } ∧
          (o.state = .coking → onlyFlag .ripe s t) ∧ (o.state = .ripe → t.panel.events = s.panel.events)) ∧
        (o.state = .coking ∨ o.state = .ripe → o.gross < target →
          becomes { o with target := target, remaining := target - o.gross, state := .coking } t ∧
          t.panel.events = s.panel.events) ∧
        (o.state = .charging ∨ o.state = .unknown → becomes { o with target := target, remaining := target } t) ∧
        (o.state = .empty ∨ o.state = .outOfService → becomes { o with target := target } t))) ∧
    (Accepts (.confirmClock 0) s fun t => onlyOvens s t ∧
      t.sched.ovens = s.sched.ovens.map fun o => { o with suspect := false })

/-- At an own oven OUT_OF_SERVICE is REFUSED for CHARGING, BUSY for a busy oven, and else empties its counts and suspect
flag; RETURN_TO_SERVICE brings OUT_OF_SERVICE alone to EMPTY; SET_OVEN takes an UNKNOWN oven to EMPTY, or to COKING
with its remaining, RIPE with the RIPE event at 0. Ranges come first, then BUSY, then REFUSED; each is answered RANGE for
an oven that is not the station's own (R72). That SET_OVEN EMPTY is
accepted with any remaining, also one above the target, is the model's choice (log 17). -/
def Obligations.OperatorMovesTheOven : Prop :=
  (∀ (s : State) (oven st m : Nat), s.sectionRuns = true → s.slotOf oven = none →
    Answers (.outOfService oven) s .range [] ∧ Answers (.returnToService oven) s .range [] ∧
    Answers (.setOven oven st m) s .range []) ∧
  (∀ (s : State) (oven k : Nat) (o : Oven), s.sectionRuns = true → s.slotOf oven = some k →
    s.sched.ovens[k]? = some o →
    let becomes (o' : Oven) (t : State) : Prop := onlyOvens s t ∧ t.sched.ovens = s.sched.ovens.set k o' ∧
      RecordId.ovenOf k ∈ t.store.wanted
    let busy : Prop := o.state = .claimed ∨ o.state = .pushing ∨ (o.state = .ripe ∧ o.pending = true)
    (o.state = .charging → Answers (.outOfService oven) s .refused []) ∧
    (busy → Answers (.outOfService oven) s .busy []) ∧
    (o.state = .outOfService → Answers (.outOfService oven) s .accepted []) ∧
    (o.state ≠ .charging → ¬busy → o.state ≠ .outOfService → Accepts (.outOfService oven) s
      (becomes { o with state := .outOfService, remaining := 0, gross := 0, suspect := false })) ∧
    (o.state ≠ .outOfService → Answers (.returnToService oven) s .refused []) ∧
    (o.state = .outOfService → Accepts (.returnToService oven) s
      (becomes { o with state := .empty, remaining := 0, gross := 0, suspect := false })) ∧
    (∀ st m, 1 < st ∨ (st = 1 ∧ o.target < m) → Answers (.setOven oven st m) s .range []) ∧
    (∀ m, busy → Answers (.setOven oven 0 m) s .busy [] ∧ (m ≤ o.target → Answers (.setOven oven 1 m) s .busy [])) ∧
    (∀ m, ¬busy → o.state ≠ .unknown →
      Answers (.setOven oven 0 m) s .refused [] ∧ (m ≤ o.target → Answers (.setOven oven 1 m) s .refused [])) ∧
    (∀ m, o.state = .unknown →
      Accepts (.setOven oven 0 m) s
        (becomes { o with state := .empty, remaining := 0, gross := 0, suspect := false, restored := false }) ∧
      (0 < m → m ≤ o.target → Accepts (.setOven oven 1 m) s fun t => t.panel.events = s.panel.events ∧
        becomes { o with state := .coking, remaining := m, gross := o.target - m, suspect := false, restored := false } t) ∧
      Accepts (.setOven oven 1 0) s fun t => onlyFlag .ripe s t ∧
        becomes { o with state := .ripe, remaining := 0, gross := o.target, suspect := false, restored := false } t))

/-- CHARGE_BEGIN at an own oven is BUSY unless the station is ACTIVE, the stop flag clear, the main not LOW, the oven
EMPTY and both its doors SEALED; then it is ACCEPTED and ASPIRATE offered, the oven unchanged. CHARGE_END takes a
CHARGING oven to COKING from its full target, with ASPIRATE_END while the list holds it; CLAIMED and PUSHING are BUSY,
others REFUSED. RESEAT at an own oven is RANGE for a side that is none of the three and REFUSED when no named door is in
FAULT; each of the three is answered RANGE for an oven that is not the station's own (R72, R165); else each named door in
FAULT is INFLATING with its attempts 0, or SEALED at once with its switch asserted, and no other door changes. -/
def Obligations.ChargingAndReseatRequests : Prop :=
  (∀ (s : State) (oven : Nat), s.sectionRuns = true →
      (s.slotOf oven = none → Answers (.chargeBegin oven) s .range [] ∧ Answers (.chargeEnd oven) s .range []) ∧
      (∀ k o, s.slotOf oven = some k → s.sched.ovens[k]? = some o →
        let permitted : Prop := s.line.state = .active ∧ s.ticket.stopFlag = false ∧ s.press.main.low = false ∧
          o.state = .empty ∧ s.doorState k .pusherSide = .sealed ∧ s.doorState k .cokeSide = .sealed
        (¬permitted → Answers (.chargeBegin oven) s .busy []) ∧
        (permitted → Accepts (.chargeBegin oven) s fun t =>
          queues (.aspirate oven) s t ∧ t.sched = s.sched ∧ t.press = s.press ∧ t.ticket = s.ticket ∧
          (8 ≤ s.line.q2.length → t.line.q2 = s.line.q2 ∧ t.line.dropped = s.line.dropped ∧ onlyFlag .linkDrop s t)) ∧
        (o.state = .claimed ∨ o.state = .pushing → Answers (.chargeEnd oven) s .busy []) ∧
        (o.state ≠ .claimed → o.state ≠ .pushing → o.state ≠ .charging → Answers (.chargeEnd oven) s .refused []) ∧
        (o.state = .charging → Accepts (.chargeEnd oven) s fun t =>
          t.sched.ovens = s.sched.ovens.set k { o with state := .coking, remaining := o.target, gross := 0 } ∧
          RecordId.ovenOf k ∈ t.store.wanted ∧ t.press = s.press ∧ t.ticket = s.ticket ∧ t.door = s.door ∧
          (s.listed oven = true → queues (.aspirateEnd oven) s t) ∧ (s.listed oven = false → t.line = s.line)))) ∧
  (∀ (s : State) (oven side : Nat), s.sectionRuns = true → s.slotOf oven = none →
      Answers (.reseat oven side) s .range []) ∧
  (∀ (s : State) (oven k : Nat) (o : Oven) (pair : DoorPair), s.sectionRuns = true → s.slotOf oven = some k →
      s.sched.ovens[k]? = some o → s.door[k]? = some pair →
      let brought (d : Door) (side : Side) : Door :=
        if d.state ≠ .fault then d
        else if s.sealLevel (k + 1) side then
          { d with state := .sealed, leakCount := 0, clean := 0, attempts := 0,
                   window := some (1000 * s.cfg.leakWindow), inflate := none, deflate := none }
        else
          { d with state := .inflating, leakCount := 0, clean := 0, attempts := 0, window := none,
                   inflate := some (1000 * s.cfg.inflateLimit), deflate := none }
      (∀ side, 2 < side → Answers (.reseat oven side) s .range []) ∧
      (pair.p.state ≠ .fault → Answers (.reseat oven 0) s .refused []) ∧
      (pair.c.state ≠ .fault → Answers (.reseat oven 1) s .refused []) ∧
      (pair.p.state ≠ .fault → pair.c.state ≠ .fault → Answers (.reseat oven 2) s .refused []) ∧
      (pair.p.state = .fault → Accepts (.reseat oven 0) s fun t =>
        t = { s with door := s.door.set k { pair with p := brought pair.p .pusherSide } }) ∧
      (pair.c.state = .fault → Accepts (.reseat oven 1) s fun t =>
        t = { s with door := s.door.set k { pair with c := brought pair.c .cokeSide } }) ∧
      (pair.p.state = .fault ∨ pair.c.state = .fault → Accepts (.reseat oven 2) s fun t =>
        t = { s with door := s.door.set k ⟨brought pair.p .pusherSide, brought pair.c .cokeSide⟩ }))

/-- CLEAR_CAR is ACCEPTED at a car in FAULT outside HALTED(DUPLICATE): HOMING with its position unknown, no served ticket
and no door held, HOME at the head before the kept TOWER and WHARF entries, and a WHARF entry added in DISCHARGING, each
in place of the tail entry of a full queue (R123). RESOLVE at a pusher that holds a stall ends it as DONE, an UNHOMED car
then queueing HOME in the same way, or as ABANDON(STALLED) and FAULT, for the record the stall is held for (log 24).
RANGE for a RESOLVE parameter above 1 comes before REFUSED (the model's choice, log 17). -/
def Obligations.CarRequestsClearAndResolve : Prop :=
  ∀ s : State, s.carRuns = true →
    let home : Move := ⟨.home, none, none⟩
    let kept := s.car.queue.filter fun m => (m.purpose == .tower) || (m.purpose == .wharf)
    (s.line.state = .haltedDuplicate ∨ s.car.state ≠ .fault → Answers .clearCar s .refused []) ∧
    (s.line.state ≠ .haltedDuplicate → s.car.state = .fault → s.car.inProgress = false →
      Accepts .clearCar s fun t => t = { s with
        car := { s.car with
          queue := joinedAtHead home false
            (if s.cfg.carKind = .quench ∧ s.car.quench = .discharging then
              joinedAtHead ⟨.wharf, some s.cfg.wharfMarker, none⟩ false kept else kept)
          position := none
          actionServes := false
          served := none
          faultDeclined := false
          doorHeld := false
          state := .homing } }) ∧
    (∀ n, 1 < n → Answers (.resolve n) s .range []) ∧
    (∀ n, n ≤ 1 → s.line.state = .haltedDuplicate ∨ s.cfg.carKind ≠ .pusher ∨ s.car.stallHeld = false →
      Answers (.resolve n) s .refused []) ∧
    (s.line.state ≠ .haltedDuplicate → s.cfg.carKind = .pusher → s.car.stallHeld = true →
      (Accepts (.resolve 0) s fun t => t.car.stallHeld = false ∧ t.ticket = s.ticket ∧
        (s.car.action = some .ram → t.car.state = .spotted ∧ t.car.action = none ∧ t.car.actionLimit = none) ∧
        (s.car.action ≠ some .ram → t.car.action = s.car.action ∧
          t.car.state = (if s.car.state = .unhomed then .homing else s.car.state) ∧
          t.car.queue = (if s.car.state = .unhomed then joinedAtHead home s.car.inProgress s.car.queue
            else s.car.queue)) ∧
        (∀ r, s.actionRecord = some r → s.car.queue.length < 4 ∨ s.car.state ≠ .unhomed ∨ s.car.action = some .ram →
          queues (.finished r.ticket r.oven) s t) ∧
        (∀ r x, s.servedRecord = some r → r.phase.beforeGone = true → s.car.state = .unhomed → s.car.action ≠ some .ram →
          4 ≤ s.car.queue.length → s.car.queue.getLast? = some x → x.purpose = .spot → x.ticket = some r.ticket →
          s.onLine = true → s.line.q1.length < 7 →
          t.line.q1.getLast? = some ⟨.decline r.ticket r.oven s.cfg.carKind .queueFull, 0, false⟩)) ∧
      (Accepts (.resolve 1) s fun t => t.car.stallHeld = false ∧ t.car.state = .fault ∧ t.car.action = none ∧
        t.flag .carFault = true ∧ t.ticket = s.ticket ∧
        (∀ r, s.actionRecord = some r → s.onLine = true → s.line.q0.length < 4 →
          t.line.q0 = s.line.q0 ++ [⟨.abandon r.ticket r.oven .stalled, 0, false⟩])))

/-- CONFIG_WRITE is REFUSED unless the station is halted, RANGE beyond offset 95, BUSY during a write, and else ACCEPTED:
the write of its first page starts, and that of the page the bytes run on into waits after it, each holding the new bytes
in their places and the others as they stood, and the array and the configuration in use do not change at once. RESTART
is ACCEPTED and waits for the end of its transaction. -/
def Obligations.ConfigWriteAndRestart : Prop :=
  ∀ (s : State) (offset : Nat) (bytes : List Byte), s.line.state ≠ .inReset →
    (exec .restart s = .next
      { s with panel := { s.panel with restartPending := true, reply := some ⟨.accepted, []⟩ } }) ∧
    (between 1 16 bytes.length = true →
      (s.onLine = true → Answers (.configWrite offset bytes) s .refused []) ∧
      (s.onLine = false → 96 < offset + bytes.length → Answers (.configWrite offset bytes) s .range []) ∧
      (s.onLine = false → offset + bytes.length ≤ 96 → s.store.write.isSome = true →
        Answers (.configWrite offset bytes) s .busy []) ∧
      (s.onLine = false → offset + bytes.length ≤ 96 → s.store.write = none → s.arrayOk →
        let holdsNew (page : Nat) (b : List Byte) : Prop := b.length = 16 ∧ ∀ i, i < 16 → b.getD i 0 =
          if offset ≤ 16 * page + i ∧ 16 * page + i < offset + bytes.length then bytes.getD (16 * page + i - offset) 0
          else Memory.read s.store.array (16 * page + i)
        Completes (.configWrite offset bytes) s fun t =>
          t = { s with
            store := { s.store with write := t.store.write }
            panel := { s.panel with reply := some ⟨.accepted, []⟩ } } ∧
          ∃ w, t.store.write = some w ∧ w.page = offset / 16 ∧ w.rewrite = false ∧ w.left = 40 ∧
            holdsNew w.page w.bytes ∧ w.rest.length = (offset + bytes.length - 1) / 16 - offset / 16 ∧
            ∀ j p b, w.rest[j]? = some (p, b) → p = w.page + 1 + j ∧ holdsNew p b))

/-! ### Series, claim and push -/

/-- The passes of the series have different residues, together 1 to S, each oven lies in the pass of its residue, and its
rank is pass times 128 plus oven. The candidate is the eligible entry of smallest rank above the cursor, else of
smallest rank of all. A claim whose conditions hold is offered for last-done + 1; OPEN and GO are offered when theirs
hold. The end of every event at a section judges them so (log 9): OPEN and GO first, then the claim. The door-off limit
stops there once both doors of the record's oven are OFF, as at the event in which the second latch opens, and no other
limit changes there (R107). A queued CLAIM is
withdrawn, and its claim settled with the backoff, at another's CLAIM that opens a record, at a later last-done by DONE or
STANDING, and when STOP sets the flag (R84); in transmission it is marked. A queued GO is withdrawn when isolation or the
doors no longer hold (R110), and a queued OPEN or GO when STOP sets the flag (R108), when ABANDON is offered (R112) and
when the record closes (R104; GO: log 25). -/
def Obligations.SeriesClaimAndPushAreJudged : Prop :=
  (∀ step shift : Nat, 2 ≤ step → shift < step → Nat.gcd shift step = 1 →
    residue step shift 0 = 1 ∧
    (∀ j, residue step shift (j + 1) = (residue step shift j - 1 + shift) % step + 1) ∧
    (∀ i j, i < step → j < step → residue step shift i = residue step shift j → i = j) ∧
    (∀ oven, passOf step shift oven < step ∧ residue step shift (passOf step shift oven) = (oven - 1) % step + 1)) ∧
  (∀ (c : Cfg) (oven : Nat), rankOf c oven = passOf c.step c.shift oven * 128 + oven) ∧
  (∀ s : State, s.sched.roster.length = 120 →
    let eligible (n : Nat) : Prop := (s.rosterAt n).state = .current ∧
      ((s.rosterAt n).summary = .coking ∨ (s.rosterAt n).summary = .ripe)
    let rank := rankOf s.cfg
    (s.candidate = none → ∀ n, ¬eligible n) ∧
    (∀ n, s.candidate = some n → eligible n ∧
      (s.sched.cursor < rank n → ∀ m, eligible m → s.sched.cursor < rank m → rank n ≤ rank m) ∧
      (rank n ≤ s.sched.cursor → ∀ m, eligible m → rank m ≤ s.sched.cursor ∧ rank n ≤ rank m))) ∧
  (∀ (s : State) (k n : Nat) (o : Oven), s.sched.ovens[k]? = some o → s.slotOf n = some k → s.candidate = some n →
    let holds : Prop := s.line.state = .active ∧ s.ticket.stopFlag = false ∧ s.ticket.record = none ∧
      s.ticket.claim = none ∧ o.state = .ripe ∧ o.held = false ∧ o.suspect = false ∧ o.pending = false ∧
      s.press.main.stable = true ∧ s.ticket.pacing = none ∧ s.ticket.backoff = none ∧
      s.kindCount .pusher = 1 ∧ s.kindCount .guide = 1 ∧ s.kindCount .quench = 1
    (holds → s.line.q1.length < 8 → judgeClaim s = { s with
      ticket := { s.ticket with claim := some ⟨s.ticket.lastDone + 1, n⟩ }
      sched := { s.sched with ovens := s.sched.ovens.set k { o with pending := true } }
      line := { s.line with q1 := s.line.q1 ++ [⟨.claim (s.ticket.lastDone + 1) n, 0, false⟩] } }) ∧
    (¬holds → judgeClaim s = s)) ∧
  (∀ s : State, s.candidate = none → judgeClaim s = s) ∧
  (∀ (s : State) (n : Nat), s.candidate = some n → s.slotOf n = none → judgeClaim s = s) ∧
  (∀ (s : State) (r : Record) (c : Context) (k : Nat), s.ticket.record = some r → s.ticket.context = some c →
    s.resetRecord.role = .ovens → s.slotOf r.oven = some k → s.line.q1.length < 8 →
    let isolated : Prop := (s.damper k).applied = 0 ∧ s.aspirationValve k = false
    let down (side : Side) : Prop := s.doorState k side = .deflated ∨ s.doorState k side = .off
    let off (side : Side) : Prop := s.doorState k side = .off
    let free : Prop := s.line.state = .active ∧ r.abandonOffered = false ∧ s.ticket.stopFlag = false ∧ isolated
    let opens : Prop := free ∧ r.phase = .assented ∧ c.openOffered = false ∧ down .pusherSide ∧ down .cokeSide
    let goes : Prop := free ∧ r.phase = .opened ∧ c.goOffered = false ∧
      r.reports = ⟨true, true, true, true, true⟩ ∧ off .pusherSide ∧ off .cokeSide
    (opens → (judgePush s).line.q1 = s.line.q1 ++ [⟨.opening r.ticket r.oven, 0, false⟩] ∧
      (judgePush s).ticket.context.map (·.openOffered) = some true) ∧
    (goes → (judgePush s).line.q1 = s.line.q1 ++ [⟨.go r.ticket r.oven, 0, false⟩] ∧
      (judgePush s).ticket.context.map (·.goOffered) = some true) ∧
    (¬opens → ¬goes → c.goOffered = false ∨ (isolated ∧ off .pusherSide ∧ off .cokeSide) → (judgePush s).line = s.line) ∧
    (¬opens → ¬goes → c.goOffered = true → ¬(isolated ∧ off .pusherSide ∧ off .cokeSide) →
      s.line.holds (.go r.ticket r.oven) = true →
      ((∀ a, s.line.attempt = some a → a.frame.cls ≠ 1) →
        (∀ q ∈ (judgePush s).line.q1, q.frame ≠ .go r.ticket r.oven) ∧
        (judgePush s).ticket.context.map (·.goOffered) = some false) ∧
      (∀ a q rest, s.line.attempt = some a → a.replaced = false → a.frame.cls = 1 → s.line.q1 = q :: rest →
        q.frame = .go r.ticket r.oven → (judgePush s).line.q1.head? = some { q with marked := true } ∧
        (judgePush s).ticket.context.map (·.goOffered) = some true))) ∧
  (let limits (t : State) : Option (Limit × Limit × Limit) := t.ticket.context.map fun c => (c.assent, c.spot, c.doorOff)
   let bothOff (k : Nat) (t : State) : Prop := t.doorState k .pusherSide = .off ∧ t.doorState k .cokeSide = .off
   (∀ (s0 s : State) (r : Record) (c : Context) (k : Nat), s.sectionRuns = true → s.ticket.record = some r →
     s.ticket.context = some c → s.slotOf r.oven = some k →
     (bothOff k s → limits (finish s0 s) = some (c.assent, c.spot, .stopped)) ∧
     (¬bothOff k s → limits (finish s0 s) = some (c.assent, c.spot, c.doorOff))) ∧
   (∀ (s : State) (r : Record) (c : Context) (slot k : Nat) (side : Side) (pair : DoorPair) (left : Nat),
     s.sectionRuns = true → s.ticket.record = some r → s.ticket.context = some c → s.slotOf r.oven = some k →
     s.slotIndex slot = some k → s.door[k]? = some pair → (pair.get side).latch = ⟨true, some left⟩ →
     s.lineLevel (.latch slot side) = false →
     Completes (.rejectTimerExpiry (.latch slot side)) s fun t => t.doorState k side = .off ∧
       (bothOff k t → limits t = some (c.assent, c.spot, .stopped)) ∧
       (¬bothOff k t → limits t = some (c.assent, c.spot, c.doorOff)))) ∧
  (∀ (s : State) (src : Nat) (c : Claim), s.resetRecord.role = .ovens → s.ticket.claim = some c →
    s.line.holds (.claim c.ticket c.oven) = true →
    let withdrawn (t : State) : Prop :=
      ((∀ a, s.line.attempt = some a → a.frame.cls ≠ 1) →
        t.ticket.claim = none ∧ t.ticket.backoff = some (1000 * s.cfg.claimBackoff) ∧
        ∀ q ∈ t.line.q1, q.frame ≠ .claim c.ticket c.oven) ∧
      (∀ a q rest, s.line.attempt = some a → a.replaced = false → a.frame.cls = 1 → s.line.q1 = q :: rest →
        q.frame = .claim c.ticket c.oven →
        t.ticket.claim = some c ∧ t.line.q1.head? = some { q with marked := true })
    (∀ tk oven, s.handsOn src (.claim tk oven) = true → s.fromSection src = true → src ≠ s.own →
      s.ownsOven oven = false → s.ticket.record = none → tk = s.ticket.lastDone + 1 →
      Effects (.claimFrame src tk oven) s withdrawn) ∧
    (∀ tk oven, s.handsOn src (.finished tk oven) = true → s.fromCar src .pusher = true →
      ticketLater tk s.ticket.lastDone = true → Effects (.doneFrame src tk oven) s withdrawn) ∧
    (∀ b, s.handsOn src (.standing b) = true → s.peer.table.length = 31 → src ≠ s.own → s.clashes b = false →
      (s.peerAt src).standing = .inStanding → (s.peerAt src).role = some b.part.role →
      (s.peerAt src).kind = b.part.kind → ticketLater b.common.lastDone s.ticket.lastDone = true →
      Effects (.standingFrame src b) s withdrawn) ∧
    (∀ origin, s.handsOn src (.stop origin) = true → s.ticket.stopFlag = false →
      Effects (.stopFrame src origin) s withdrawn)) ∧
  (∀ (s : State) (src : Nat) (r : Record) (c : Context), s.resetRecord.role = .ovens → s.ticket.record = some r →
    s.ticket.context = some c → (∀ a, s.line.attempt = some a → a.frame.cls ≠ 1) →
    let cleared (t : State) : Prop :=
      ∀ q ∈ t.line.q1, q.frame ≠ .opening r.ticket r.oven ∧ q.frame ≠ .go r.ticket r.oven
    let takenBack (t : State) : Prop := cleared t ∧
      (s.line.holds (.opening r.ticket r.oven) = true → t.ticket.context.map (·.openOffered) = some false) ∧
      (s.line.holds (.go r.ticket r.oven) = true → t.ticket.context.map (·.goOffered) = some false)
    (∀ origin, s.handsOn src (.stop origin) = true → s.ticket.stopFlag = false →
      Effects (.stopFrame src origin) s takenBack) ∧
    (∀ k why, s.handsOn src (.decline r.ticket r.oven k why) = true → s.fromCar src k = true →
      r.phase.beforeGone = true → r.abandonOffered = false →
      Effects (.declineFrame src r.ticket r.oven k why) s takenBack) ∧
    (c.doorOff.isRunning = true → r.phase.beforeGone = true → r.abandonOffered = false →
      Effects .doorOffLimitExpiry s takenBack) ∧
    (∀ why, s.handsOn src (.abandon r.ticket r.oven why) = true →
      (if why = .stalled then s.fromCar src .pusher else s.fromSection src && r.phase.beforeGone) = true →
      Effects (.abandonFrame src r.ticket r.oven why) s cleared) ∧
    (s.handsOn src (.finished r.ticket r.oven) = true → s.fromCar src .pusher = true →
      Effects (.doneFrame src r.ticket r.oven) s cleared)) ∧
  (∀ s0 s : State, s.sectionRuns = true →
    let judged := judgeClaim (judgePush
      (offerOvenFrames s0.sched.ovens s.sched.ovens (refreshOwnRoster (refreshDampers s))))
    (finish s0 s).ticket = judged.ticket ∧ (finish s0 s).line = judged.line ∧
    (finish s0 s).sched.ovens.map (·.pending) = judged.sched.ovens.map (·.pending))

/-! ### The line's bits -/

/-- The bits of a frame on the line (R16 to R18) and their reading. The start bit, a header of class (2 bits), source (5),
kind (4) and length (6), the payload bytes and the 16 bits of the check, each most significant bit first, are stuffed, and
7 recessive bits end the frame. After five equal bits sent, one of the other level follows, also where the fifth is the
check field's last bit (the model's choice, log 6). The check register starts at all ones and takes in the bits of header
and payload one by one: it shifts one place, and where the bit differs from its most significant bit 1021 in hexadecimal
is combined in; it is sent with no inversion. A frame's payload reads back as the frame, at the length its kind requires,
and the bits of a whole frame from a station 1 to 31 are received as that frame from that station; with any other check
field they are a check fault. -/
def Obligations.FramesReadBackFromTheirBits : Prop :=
  (∀ (f : Frame) (src : Nat), f.valid = true → 1 ≤ src → src ≤ 31 →
    let bytes := Frame.payload f
    let n := bytes.length
    let checked := checkedBits src f
    let field (start width value : Nat) : Prop :=
      ∀ i, i < width → checked[start + i]? = some (value.testBit (width - 1 - i))
    parsePayload (Frame.code f) bytes = some f ∧ n = requiredLength (Frame.code f) bytes ∧ n ≤ 48 ∧
    classOfCode (Frame.code f) = f.cls ∧
    checked.length = 17 + 8 * n ∧ field 0 2 f.cls ∧ field 2 5 src ∧ field 7 4 (Frame.code f) ∧ field 11 6 n ∧
    (∀ (j : Nat) (b : Byte), bytes[j]? = some b → field (17 + 8 * j) 8 b.toNat) ∧
    (∃ check : List Bool, check.length = 16 ∧ (∀ i, i < 16 → check[i]? = some ((crc16 checked).getMsbD i)) ∧
      frameBits src f = stuff (false :: (checked ++ check)) ++ [true, true, true, true, true, true, true]) ∧
    receiveBits (frameBits src f) = .frame src f ∧
    (∀ check : BitVec 16, check ≠ crc16 checked →
      receiveBits (stuff (false :: (checked ++ (List.range 16).map check.getMsbD)) ++ List.replicate 7 true) =
        .fault .check)) ∧
  (crc16 [] = 0xFFFF#16 ∧ ∀ (bits : List Bool) (b : Bool),
    let register := crc16 bits
    crc16 (bits ++ [b]) = if b = register.msb then register <<< 1 else (register <<< 1) ^^^ 0x1021#16) ∧
  (stuff [] = [] ∧ ∀ (bits : List Bool) (b : Bool),
    let sent := stuff bits ++ [b]
    stuff (bits ++ [b]) = if 5 ≤ sent.length ∧ (sent.reverse.take 5).all (fun x => x == b) = true then sent ++ [!b] else sent)

/-- One bit time of the line (R14, R15, R21, R25, R26, R30; log 6). The idle count starts again at a dominant bit and
goes to 12, where a dominant bit is a start bit and a frame to send begins. A frame under way ends in the command its
bits amount to, which is carried out in that bit time. In an attempt each bit read is compared with the bit on LTX: as
sent, it goes on, and with the last bit completes; recessive sent and dominant read in the arbitration field, it is lost;
else it is a transmit error, and the station reads on as a receiver of that attempt, also where its start bit was the bit
in error (the model's choice, log 41). A whole attempt read back as sent completes once. A station that does not run
reads nothing. -/
def Obligations.LineBitsBecomeCommands : Prop :=
  let begins (t : State) : Host.Outcome State Fault Refusal :=
    if t.line.state = .active ∧ t.line.attempt = none ∧ t.line.listener.idle = 12 ∧ t.line.listener.taking = none ∧
        (t.line.q0 ≠ [] ∨ t.line.q1 ≠ [] ∨ t.line.q2 ≠ [] ∨ t.line.q3 ≠ []) then exec .attemptStart t else .next t
  (∀ (s : State) (b : Bool),
    let idle := if b then min 12 (s.line.listener.idle + 1) else 0
    let gives (taking : Option (List Bool)) (commands : List Instr) : Prop :=
      s.readBit b = andThen (runAll commands { s with line := { s.line with listener := ⟨idle, taking⟩ } }) begins
    let receives (bits : List Bool) (before : List Instr) : Prop :=
      (receiveBits bits = .unfinished → gives (some bits) before) ∧
      (∀ src f, receiveBits bits = .frame src f → gives none (before ++ [Frame.command src f])) ∧
      (∀ f, receiveBits bits = .fault f → gives none (before ++ [.receiveFault f]))
    (s.running = false → s.readBit b = .next s) ∧
    (s.running = true → s.line.attempt = none →
      (s.line.listener.taking = none → gives (if s.line.listener.idle = 12 ∧ b = false then some [b] else none) []) ∧
      (∀ bits, s.line.listener.taking = some bits → receives (bits ++ [b]) [])) ∧
    (∀ a, s.running = true → s.line.attempt = some a →
      let bits := s.line.listener.taking.getD [] ++ [b]
      let whole := frameBits s.own a.frame
      let n := (s.line.listener.taking.getD []).length
      s.ltx = whole.getD n true ∧
      (b = s.ltx → bits.length ≠ whole.length → gives (some bits) []) ∧
      (b = s.ltx → bits.length = whole.length → gives none [.attemptComplete, Frame.command s.own a.frame]) ∧
      (b ≠ s.ltx → s.ltx = true → inArbitration s.own a.frame n = true → receives bits [.arbitrationLost]) ∧
      (b ≠ s.ltx → s.ltx = false ∨ inArbitration s.own a.frame n = false → receives bits [.transmitError]))) ∧
  (∀ (s : State) (a : Attempt), s.running = true → s.line.attempt = some a → s.line.listener.taking = none →
    ∃ idle, State.readBits (frameBits s.own a.frame) s = andThen
      (runAll [.attemptComplete, Frame.command s.own a.frame]
        { s with line := { s.line with listener := ⟨idle, none⟩ } }) begins) ∧
  (∀ (first rest : List Instr) (c : Instr) (s t : State),
    runAll [] s = .next s ∧ runAll [c] s = exec c s ∧
    (runAll first s = .next t → runAll (first ++ rest) s = runAll rest t)) ∧
  (∀ (src : Nat) (f : Frame), (stuffMarks true 0 (false :: (headerBits src f).take 7)).countP (· == false) = 8)

/-! ### Invariants -/

/-- Right after reset every invariant holds. -/
def Obligations.ResetStateMeetsEveryInvariant : Prop :=
  State.reset.arrayOk ∧ State.reset.queuesOk ∧ State.reset.storeQueueOk ∧ State.reset.countsOk ∧
  State.reset.tablesOk ∧ State.reset.recordOk ∧ State.reset.aspirationOk ∧ State.reset.moveQueueOk ∧
  State.reset.carFaultOk ∧ State.reset.ovensOk ∧ State.reset.doorsOk ∧ State.reset.valvesOk

/-- Every step keeps the store array in its canonical form, the transmit queues within their capacities with every frame
in the queue of its class, the store queue without a record twice, the link counters and the line minute in their ranges,
and the tables whole. -/
def Obligations.EveryStepKeepsQueuesCountsAndArray : Prop :=
  ∀ s t : State, step s = .next t →
    (s.arrayOk → t.arrayOk) ∧ (s.queuesOk → t.queuesOk) ∧ (s.storeQueueOk → t.storeQueueOk) ∧
    (s.countsOk → t.countsOk) ∧ (s.tablesOk → t.tablesOk)

/-- Every step keeps a record's ticket exactly one later than last-done, the aspiration list within its limit and without
an oven twice, the move queue at most 4 entries long, and a car in FAULT with no action, limit or move in progress. -/
def Obligations.EveryStepKeepsTicketsSlotsAndMoves : Prop :=
  ∀ s t : State, step s = .next t →
    (s.recordOk → t.recordOk) ∧ (s.aspirationOk → t.aspirationOk) ∧ (s.moveQueueOk → t.moveQueueOk) ∧
    (s.carFaultOk → t.carFaultOk)

/-- Every step keeps each oven's counts in agreement with its state, each door's timers and counts with its state, and an
aspiration valve on only while its oven is CHARGING under an own entry with no isolate order. -/
def Obligations.EveryStepKeepsOvensDoorsAndValves : Prop :=
  ∀ s t : State, step s = .next t →
    (s.ovensOk → t.ovensOk) ∧ (s.doorsOk → t.doorsOk) ∧ (s.valvesOk → t.valvesOk)
end

