-- ==== Sys2Proof/Laws/State.lean ====
section
/-! SUPPORT. One lemma per field and unit update, each by `rfl`. -/

namespace Sys2Proof.Machine

@[simp] theorem mapLine_pending (f : LineUnit → LineUnit) (s : State) : (s.mapLine f).pending = s.pending := rfl
@[simp] theorem mapLine_pins (f : LineUnit → LineUnit) (s : State) : (s.mapLine f).pins = s.pins := rfl
@[simp] theorem mapLine_resetRecord (f : LineUnit → LineUnit) (s : State) : (s.mapLine f).resetRecord = s.resetRecord := rfl
@[simp] theorem mapLine_cfg (f : LineUnit → LineUnit) (s : State) : (s.mapLine f).cfg = s.cfg := rfl
@[simp] theorem mapLine_line (f : LineUnit → LineUnit) (s : State) : (s.mapLine f).line = f s.line := rfl
@[simp] theorem mapLine_peer (f : LineUnit → LineUnit) (s : State) : (s.mapLine f).peer = s.peer := rfl
@[simp] theorem mapLine_ticket (f : LineUnit → LineUnit) (s : State) : (s.mapLine f).ticket = s.ticket := rfl
@[simp] theorem mapLine_sched (f : LineUnit → LineUnit) (s : State) : (s.mapLine f).sched = s.sched := rfl
@[simp] theorem mapLine_door (f : LineUnit → LineUnit) (s : State) : (s.mapLine f).door = s.door := rfl
@[simp] theorem mapLine_press (f : LineUnit → LineUnit) (s : State) : (s.mapLine f).press = s.press := rfl
@[simp] theorem mapLine_car (f : LineUnit → LineUnit) (s : State) : (s.mapLine f).car = s.car := rfl
@[simp] theorem mapLine_store (f : LineUnit → LineUnit) (s : State) : (s.mapLine f).store = s.store := rfl
@[simp] theorem mapLine_panel (f : LineUnit → LineUnit) (s : State) : (s.mapLine f).panel = s.panel := rfl
@[simp] theorem mapLine_fresh (f : LineUnit → LineUnit) (s : State) : (s.mapLine f).fresh = s.fresh := rfl

@[simp] theorem mapPeer_pending (f : PeerUnit → PeerUnit) (s : State) : (s.mapPeer f).pending = s.pending := rfl
@[simp] theorem mapPeer_pins (f : PeerUnit → PeerUnit) (s : State) : (s.mapPeer f).pins = s.pins := rfl
@[simp] theorem mapPeer_resetRecord (f : PeerUnit → PeerUnit) (s : State) : (s.mapPeer f).resetRecord = s.resetRecord := rfl
@[simp] theorem mapPeer_cfg (f : PeerUnit → PeerUnit) (s : State) : (s.mapPeer f).cfg = s.cfg := rfl
@[simp] theorem mapPeer_line (f : PeerUnit → PeerUnit) (s : State) : (s.mapPeer f).line = s.line := rfl
@[simp] theorem mapPeer_peer (f : PeerUnit → PeerUnit) (s : State) : (s.mapPeer f).peer = f s.peer := rfl
@[simp] theorem mapPeer_ticket (f : PeerUnit → PeerUnit) (s : State) : (s.mapPeer f).ticket = s.ticket := rfl
@[simp] theorem mapPeer_sched (f : PeerUnit → PeerUnit) (s : State) : (s.mapPeer f).sched = s.sched := rfl
@[simp] theorem mapPeer_door (f : PeerUnit → PeerUnit) (s : State) : (s.mapPeer f).door = s.door := rfl
@[simp] theorem mapPeer_press (f : PeerUnit → PeerUnit) (s : State) : (s.mapPeer f).press = s.press := rfl
@[simp] theorem mapPeer_car (f : PeerUnit → PeerUnit) (s : State) : (s.mapPeer f).car = s.car := rfl
@[simp] theorem mapPeer_store (f : PeerUnit → PeerUnit) (s : State) : (s.mapPeer f).store = s.store := rfl
@[simp] theorem mapPeer_panel (f : PeerUnit → PeerUnit) (s : State) : (s.mapPeer f).panel = s.panel := rfl
@[simp] theorem mapPeer_fresh (f : PeerUnit → PeerUnit) (s : State) : (s.mapPeer f).fresh = s.fresh := rfl

@[simp] theorem mapTicket_pending (f : TicketUnit → TicketUnit) (s : State) : (s.mapTicket f).pending = s.pending := rfl
@[simp] theorem mapTicket_pins (f : TicketUnit → TicketUnit) (s : State) : (s.mapTicket f).pins = s.pins := rfl
@[simp] theorem mapTicket_resetRecord (f : TicketUnit → TicketUnit) (s : State) : (s.mapTicket f).resetRecord = s.resetRecord := rfl
@[simp] theorem mapTicket_cfg (f : TicketUnit → TicketUnit) (s : State) : (s.mapTicket f).cfg = s.cfg := rfl
@[simp] theorem mapTicket_line (f : TicketUnit → TicketUnit) (s : State) : (s.mapTicket f).line = s.line := rfl
@[simp] theorem mapTicket_peer (f : TicketUnit → TicketUnit) (s : State) : (s.mapTicket f).peer = s.peer := rfl
@[simp] theorem mapTicket_ticket (f : TicketUnit → TicketUnit) (s : State) : (s.mapTicket f).ticket = f s.ticket := rfl
@[simp] theorem mapTicket_sched (f : TicketUnit → TicketUnit) (s : State) : (s.mapTicket f).sched = s.sched := rfl
@[simp] theorem mapTicket_door (f : TicketUnit → TicketUnit) (s : State) : (s.mapTicket f).door = s.door := rfl
@[simp] theorem mapTicket_press (f : TicketUnit → TicketUnit) (s : State) : (s.mapTicket f).press = s.press := rfl
@[simp] theorem mapTicket_car (f : TicketUnit → TicketUnit) (s : State) : (s.mapTicket f).car = s.car := rfl
@[simp] theorem mapTicket_store (f : TicketUnit → TicketUnit) (s : State) : (s.mapTicket f).store = s.store := rfl
@[simp] theorem mapTicket_panel (f : TicketUnit → TicketUnit) (s : State) : (s.mapTicket f).panel = s.panel := rfl
@[simp] theorem mapTicket_fresh (f : TicketUnit → TicketUnit) (s : State) : (s.mapTicket f).fresh = s.fresh := rfl

@[simp] theorem mapSched_pending (f : SchedUnit → SchedUnit) (s : State) : (s.mapSched f).pending = s.pending := rfl
@[simp] theorem mapSched_pins (f : SchedUnit → SchedUnit) (s : State) : (s.mapSched f).pins = s.pins := rfl
@[simp] theorem mapSched_resetRecord (f : SchedUnit → SchedUnit) (s : State) : (s.mapSched f).resetRecord = s.resetRecord := rfl
@[simp] theorem mapSched_cfg (f : SchedUnit → SchedUnit) (s : State) : (s.mapSched f).cfg = s.cfg := rfl
@[simp] theorem mapSched_line (f : SchedUnit → SchedUnit) (s : State) : (s.mapSched f).line = s.line := rfl
@[simp] theorem mapSched_peer (f : SchedUnit → SchedUnit) (s : State) : (s.mapSched f).peer = s.peer := rfl
@[simp] theorem mapSched_ticket (f : SchedUnit → SchedUnit) (s : State) : (s.mapSched f).ticket = s.ticket := rfl
@[simp] theorem mapSched_sched (f : SchedUnit → SchedUnit) (s : State) : (s.mapSched f).sched = f s.sched := rfl
@[simp] theorem mapSched_door (f : SchedUnit → SchedUnit) (s : State) : (s.mapSched f).door = s.door := rfl
@[simp] theorem mapSched_press (f : SchedUnit → SchedUnit) (s : State) : (s.mapSched f).press = s.press := rfl
@[simp] theorem mapSched_car (f : SchedUnit → SchedUnit) (s : State) : (s.mapSched f).car = s.car := rfl
@[simp] theorem mapSched_store (f : SchedUnit → SchedUnit) (s : State) : (s.mapSched f).store = s.store := rfl
@[simp] theorem mapSched_panel (f : SchedUnit → SchedUnit) (s : State) : (s.mapSched f).panel = s.panel := rfl
@[simp] theorem mapSched_fresh (f : SchedUnit → SchedUnit) (s : State) : (s.mapSched f).fresh = s.fresh := rfl

@[simp] theorem mapDoor_pending (f : List DoorPair → List DoorPair) (s : State) : (s.mapDoor f).pending = s.pending := rfl
@[simp] theorem mapDoor_pins (f : List DoorPair → List DoorPair) (s : State) : (s.mapDoor f).pins = s.pins := rfl
@[simp] theorem mapDoor_resetRecord (f : List DoorPair → List DoorPair) (s : State) : (s.mapDoor f).resetRecord = s.resetRecord := rfl
@[simp] theorem mapDoor_cfg (f : List DoorPair → List DoorPair) (s : State) : (s.mapDoor f).cfg = s.cfg := rfl
@[simp] theorem mapDoor_line (f : List DoorPair → List DoorPair) (s : State) : (s.mapDoor f).line = s.line := rfl
@[simp] theorem mapDoor_peer (f : List DoorPair → List DoorPair) (s : State) : (s.mapDoor f).peer = s.peer := rfl
@[simp] theorem mapDoor_ticket (f : List DoorPair → List DoorPair) (s : State) : (s.mapDoor f).ticket = s.ticket := rfl
@[simp] theorem mapDoor_sched (f : List DoorPair → List DoorPair) (s : State) : (s.mapDoor f).sched = s.sched := rfl
@[simp] theorem mapDoor_door (f : List DoorPair → List DoorPair) (s : State) : (s.mapDoor f).door = f s.door := rfl
@[simp] theorem mapDoor_press (f : List DoorPair → List DoorPair) (s : State) : (s.mapDoor f).press = s.press := rfl
@[simp] theorem mapDoor_car (f : List DoorPair → List DoorPair) (s : State) : (s.mapDoor f).car = s.car := rfl
@[simp] theorem mapDoor_store (f : List DoorPair → List DoorPair) (s : State) : (s.mapDoor f).store = s.store := rfl
@[simp] theorem mapDoor_panel (f : List DoorPair → List DoorPair) (s : State) : (s.mapDoor f).panel = s.panel := rfl
@[simp] theorem mapDoor_fresh (f : List DoorPair → List DoorPair) (s : State) : (s.mapDoor f).fresh = s.fresh := rfl

@[simp] theorem mapPress_pending (f : PressureUnit → PressureUnit) (s : State) : (s.mapPress f).pending = s.pending := rfl
@[simp] theorem mapPress_pins (f : PressureUnit → PressureUnit) (s : State) : (s.mapPress f).pins = s.pins := rfl
@[simp] theorem mapPress_resetRecord (f : PressureUnit → PressureUnit) (s : State) : (s.mapPress f).resetRecord = s.resetRecord := rfl
@[simp] theorem mapPress_cfg (f : PressureUnit → PressureUnit) (s : State) : (s.mapPress f).cfg = s.cfg := rfl
@[simp] theorem mapPress_line (f : PressureUnit → PressureUnit) (s : State) : (s.mapPress f).line = s.line := rfl
@[simp] theorem mapPress_peer (f : PressureUnit → PressureUnit) (s : State) : (s.mapPress f).peer = s.peer := rfl
@[simp] theorem mapPress_ticket (f : PressureUnit → PressureUnit) (s : State) : (s.mapPress f).ticket = s.ticket := rfl
@[simp] theorem mapPress_sched (f : PressureUnit → PressureUnit) (s : State) : (s.mapPress f).sched = s.sched := rfl
@[simp] theorem mapPress_door (f : PressureUnit → PressureUnit) (s : State) : (s.mapPress f).door = s.door := rfl
@[simp] theorem mapPress_press (f : PressureUnit → PressureUnit) (s : State) : (s.mapPress f).press = f s.press := rfl
@[simp] theorem mapPress_car (f : PressureUnit → PressureUnit) (s : State) : (s.mapPress f).car = s.car := rfl
@[simp] theorem mapPress_store (f : PressureUnit → PressureUnit) (s : State) : (s.mapPress f).store = s.store := rfl
@[simp] theorem mapPress_panel (f : PressureUnit → PressureUnit) (s : State) : (s.mapPress f).panel = s.panel := rfl
@[simp] theorem mapPress_fresh (f : PressureUnit → PressureUnit) (s : State) : (s.mapPress f).fresh = s.fresh := rfl

@[simp] theorem mapCar_pending (f : CarUnit → CarUnit) (s : State) : (s.mapCar f).pending = s.pending := rfl
@[simp] theorem mapCar_pins (f : CarUnit → CarUnit) (s : State) : (s.mapCar f).pins = s.pins := rfl
@[simp] theorem mapCar_resetRecord (f : CarUnit → CarUnit) (s : State) : (s.mapCar f).resetRecord = s.resetRecord := rfl
@[simp] theorem mapCar_cfg (f : CarUnit → CarUnit) (s : State) : (s.mapCar f).cfg = s.cfg := rfl
@[simp] theorem mapCar_line (f : CarUnit → CarUnit) (s : State) : (s.mapCar f).line = s.line := rfl
@[simp] theorem mapCar_peer (f : CarUnit → CarUnit) (s : State) : (s.mapCar f).peer = s.peer := rfl
@[simp] theorem mapCar_ticket (f : CarUnit → CarUnit) (s : State) : (s.mapCar f).ticket = s.ticket := rfl
@[simp] theorem mapCar_sched (f : CarUnit → CarUnit) (s : State) : (s.mapCar f).sched = s.sched := rfl
@[simp] theorem mapCar_door (f : CarUnit → CarUnit) (s : State) : (s.mapCar f).door = s.door := rfl
@[simp] theorem mapCar_press (f : CarUnit → CarUnit) (s : State) : (s.mapCar f).press = s.press := rfl
@[simp] theorem mapCar_car (f : CarUnit → CarUnit) (s : State) : (s.mapCar f).car = f s.car := rfl
@[simp] theorem mapCar_store (f : CarUnit → CarUnit) (s : State) : (s.mapCar f).store = s.store := rfl
@[simp] theorem mapCar_panel (f : CarUnit → CarUnit) (s : State) : (s.mapCar f).panel = s.panel := rfl
@[simp] theorem mapCar_fresh (f : CarUnit → CarUnit) (s : State) : (s.mapCar f).fresh = s.fresh := rfl

@[simp] theorem mapStore_pending (f : StoreUnit → StoreUnit) (s : State) : (s.mapStore f).pending = s.pending := rfl
@[simp] theorem mapStore_pins (f : StoreUnit → StoreUnit) (s : State) : (s.mapStore f).pins = s.pins := rfl
@[simp] theorem mapStore_resetRecord (f : StoreUnit → StoreUnit) (s : State) : (s.mapStore f).resetRecord = s.resetRecord := rfl
@[simp] theorem mapStore_cfg (f : StoreUnit → StoreUnit) (s : State) : (s.mapStore f).cfg = s.cfg := rfl
@[simp] theorem mapStore_line (f : StoreUnit → StoreUnit) (s : State) : (s.mapStore f).line = s.line := rfl
@[simp] theorem mapStore_peer (f : StoreUnit → StoreUnit) (s : State) : (s.mapStore f).peer = s.peer := rfl
@[simp] theorem mapStore_ticket (f : StoreUnit → StoreUnit) (s : State) : (s.mapStore f).ticket = s.ticket := rfl
@[simp] theorem mapStore_sched (f : StoreUnit → StoreUnit) (s : State) : (s.mapStore f).sched = s.sched := rfl
@[simp] theorem mapStore_door (f : StoreUnit → StoreUnit) (s : State) : (s.mapStore f).door = s.door := rfl
@[simp] theorem mapStore_press (f : StoreUnit → StoreUnit) (s : State) : (s.mapStore f).press = s.press := rfl
@[simp] theorem mapStore_car (f : StoreUnit → StoreUnit) (s : State) : (s.mapStore f).car = s.car := rfl
@[simp] theorem mapStore_store (f : StoreUnit → StoreUnit) (s : State) : (s.mapStore f).store = f s.store := rfl
@[simp] theorem mapStore_panel (f : StoreUnit → StoreUnit) (s : State) : (s.mapStore f).panel = s.panel := rfl
@[simp] theorem mapStore_fresh (f : StoreUnit → StoreUnit) (s : State) : (s.mapStore f).fresh = s.fresh := rfl

@[simp] theorem mapPanel_pending (f : PanelUnit → PanelUnit) (s : State) : (s.mapPanel f).pending = s.pending := rfl
@[simp] theorem mapPanel_pins (f : PanelUnit → PanelUnit) (s : State) : (s.mapPanel f).pins = s.pins := rfl
@[simp] theorem mapPanel_resetRecord (f : PanelUnit → PanelUnit) (s : State) : (s.mapPanel f).resetRecord = s.resetRecord := rfl
@[simp] theorem mapPanel_cfg (f : PanelUnit → PanelUnit) (s : State) : (s.mapPanel f).cfg = s.cfg := rfl
@[simp] theorem mapPanel_line (f : PanelUnit → PanelUnit) (s : State) : (s.mapPanel f).line = s.line := rfl
@[simp] theorem mapPanel_peer (f : PanelUnit → PanelUnit) (s : State) : (s.mapPanel f).peer = s.peer := rfl
@[simp] theorem mapPanel_ticket (f : PanelUnit → PanelUnit) (s : State) : (s.mapPanel f).ticket = s.ticket := rfl
@[simp] theorem mapPanel_sched (f : PanelUnit → PanelUnit) (s : State) : (s.mapPanel f).sched = s.sched := rfl
@[simp] theorem mapPanel_door (f : PanelUnit → PanelUnit) (s : State) : (s.mapPanel f).door = s.door := rfl
@[simp] theorem mapPanel_press (f : PanelUnit → PanelUnit) (s : State) : (s.mapPanel f).press = s.press := rfl
@[simp] theorem mapPanel_car (f : PanelUnit → PanelUnit) (s : State) : (s.mapPanel f).car = s.car := rfl
@[simp] theorem mapPanel_store (f : PanelUnit → PanelUnit) (s : State) : (s.mapPanel f).store = s.store := rfl
@[simp] theorem mapPanel_panel (f : PanelUnit → PanelUnit) (s : State) : (s.mapPanel f).panel = f s.panel := rfl
@[simp] theorem mapPanel_fresh (f : PanelUnit → PanelUnit) (s : State) : (s.mapPanel f).fresh = s.fresh := rfl

end Sys2Proof.Machine
end

