-- ==== Sys2Proof/Laws/Basics.lean ====
section
/-! SUPPORT. Lemmas about folds over states, the queues of the line interface, and withdrawal, on which the frame
lemmas rest. -/

namespace Sys2Proof.Machine

/-- A fold of steps that keep a projection keeps it. -/
theorem foldl_keeps {α β : Type} (g : State → α) (f : State → β → State) (l : List β)
    (h : ∀ s b, g (f s b) = g s) (s : State) : g (l.foldl f s) = g s := by
  induction l generalizing s with
  | nil => rfl
  | cons b l ih => simp [ih, h]

/-- A fold of steps that keep a property keeps it. -/
theorem foldl_preserves {β : Type} (P : State → Prop) (f : State → β → State) (l : List β)
    (h : ∀ s b, P s → P (f s b)) (s : State) (hs : P s) : P (l.foldl f s) := by
  induction l generalizing s with
  | nil => exact hs
  | cons b l ih => exact ih _ (h s b hs)

/-- A projection that every slot's change keeps. -/
theorem forSlots_keeps {α : Type} (g : State → α) (f : Nat → State → State) (h : ∀ k s, g (f k s) = g s) (s : State) :
    g (forSlots f s) = g s := foldl_keeps g _ _ (fun s k => h k s) s

/-- A property that every slot's change keeps. -/
theorem forSlots_preserves (P : State → Prop) (f : Nat → State → State) (h : ∀ k s, P s → P (f k s)) (s : State)
    (hs : P s) : P (forSlots f s) := foldl_preserves P _ _ (fun s k => h k s) s hs

@[simp] theorem setQueue_state (u : LineUnit) (c : Nat) (q : List Queued) : (u.setQueue c q).state = u.state := by
  unfold LineUnit.setQueue; split <;> rfl

@[simp] theorem setQueue_attempt (u : LineUnit) (c : Nat) (q : List Queued) :
    (u.setQueue c q).attempt = u.attempt := by
  unfold LineUnit.setQueue; split <;> rfl

@[simp] theorem setQueue_ownReturn (u : LineUnit) (c : Nat) (q : List Queued) :
    (u.setQueue c q).ownReturn = u.ownReturn := by
  unfold LineUnit.setQueue; split <;> rfl

@[simp] theorem setQueue_score (u : LineUnit) (c : Nat) (q : List Queued) : (u.setQueue c q).score = u.score := by
  unfold LineUnit.setQueue; split <;> rfl

@[simp] theorem setQueue_withdrawTimer (u : LineUnit) (c : Nat) (q : List Queued) :
    (u.setQueue c q).withdrawTimer = u.withdrawTimer := by
  unfold LineUnit.setQueue; split <;> rfl

@[simp] theorem setQueue_counters (u : LineUnit) (c : Nat) (q : List Queued) :
    (u.setQueue c q).counters = u.counters := by
  unfold LineUnit.setQueue; split <;> rfl

@[simp] theorem setQueue_dropped (u : LineUnit) (c : Nat) (q : List Queued) :
    (u.setQueue c q).dropped = u.dropped := by
  unfold LineUnit.setQueue; split <;> rfl

@[simp] theorem setQueue_cutOff (u : LineUnit) (c : Nat) (q : List Queued) : (u.setQueue c q).cutOff = u.cutOff := by
  unfold LineUnit.setQueue; split <;> rfl

@[simp] theorem setQueue_listener (u : LineUnit) (c : Nat) (q : List Queued) :
    (u.setQueue c q).listener = u.listener := by
  unfold LineUnit.setQueue; split <;> rfl

@[simp] theorem replaceStanding_state (f : Frame) (u : LineUnit) : (replaceStanding f u).state = u.state := rfl
@[simp] theorem replaceStanding_q0 (f : Frame) (u : LineUnit) : (replaceStanding f u).q0 = u.q0 := rfl
@[simp] theorem replaceStanding_q1 (f : Frame) (u : LineUnit) : (replaceStanding f u).q1 = u.q1 := rfl
@[simp] theorem replaceStanding_q2 (f : Frame) (u : LineUnit) : (replaceStanding f u).q2 = u.q2 := rfl
@[simp] theorem replaceStanding_q3 (f : Frame) (u : LineUnit) : (replaceStanding f u).q3 = [Queued.fresh f] := rfl
@[simp] theorem replaceStanding_ownReturn (f : Frame) (u : LineUnit) :
    (replaceStanding f u).ownReturn = u.ownReturn := rfl
@[simp] theorem replaceStanding_score (f : Frame) (u : LineUnit) : (replaceStanding f u).score = u.score := rfl
@[simp] theorem replaceStanding_withdrawTimer (f : Frame) (u : LineUnit) :
    (replaceStanding f u).withdrawTimer = u.withdrawTimer := rfl
@[simp] theorem replaceStanding_counters (f : Frame) (u : LineUnit) :
    (replaceStanding f u).counters = u.counters := rfl
@[simp] theorem replaceStanding_dropped (f : Frame) (u : LineUnit) :
    (replaceStanding f u).dropped = u.dropped := rfl
@[simp] theorem replaceStanding_cutOff (f : Frame) (u : LineUnit) : (replaceStanding f u).cutOff = u.cutOff := rfl
@[simp] theorem replaceStanding_listener (f : Frame) (u : LineUnit) :
    (replaceStanding f u).listener = u.listener := rfl

/-- A withdrawal keeps what removing queued frames and its sequel keep. -/
theorem withdrawFrame_keeps {α : Type} (g : State → α) (f : Frame) (removed : State → State)
    (hw : ∀ p s, g (withdrawFrames p s) = g s) (hr : ∀ s, g (removed s) = g s) (s : State) :
    g (withdrawFrame f removed s) = g s := by
  unfold withdrawFrame
  split
  · dsimp only
    split
    · exact hw _ _
    · rw [hr]; exact hw _ _
  · rfl

/-- A withdrawal preserves what removing queued frames and its sequel preserve. -/
theorem withdrawFrame_preserves (P : State → Prop) (f : Frame) (removed : State → State)
    (hw : ∀ p s, P s → P (withdrawFrames p s)) (hr : ∀ s, P s → P (removed s)) (s : State) (hs : P s) :
    P (withdrawFrame f removed s) := by
  unfold withdrawFrame
  split
  · dsimp only
    split
    · exact hw _ _ hs
    · exact hr _ (hw _ _ hs)
  · exact hs

end Sys2Proof.Machine
end

