-- ==== Sys2Proof/Laws/Bits.lean ====
section
/-! SUPPORT. What a bit time of the line and an edge of the panel port can do: each changes one field of its unit and
carries out the commands it amounts to. -/

namespace Sys2Proof.Machine

/-! ### Commands carried out at once -/

@[simp] theorem andThen_next (s : State) (f : State → Host.Outcome State Fault Refusal) :
    andThen (.next s) f = f s := rfl

theorem andThen_assoc (o : Host.Outcome State Fault Refusal) (f g : State → Host.Outcome State Fault Refusal) :
    andThen (andThen o f) g = andThen o fun s => andThen (f s) g := by
  cases o <;> rfl

/-- A next state comes only from a next state. -/
theorem andThen_eq_next {o : Host.Outcome State Fault Refusal} {f : State → Host.Outcome State Fault Refusal}
    {t : State} (h : andThen o f = .next t) : ∃ s, o = .next s ∧ f s = .next t := by
  cases o with
  | next s => exact ⟨s, rfl, h⟩
  | fault r => simp [andThen] at h
  | refused r => simp [andThen] at h

@[simp] theorem runAll_nil (s : State) : runAll [] s = .next s := rfl

@[simp] theorem runAll_cons (c : Instr) (rest : List Instr) (s : State) :
    runAll (c :: rest) s = andThen (exec c s) (runAll rest) := rfl

theorem runAll_append (first rest : List Instr) (s : State) :
    runAll (first ++ rest) s = andThen (runAll first s) (runAll rest) := by
  induction first generalizing s with
  | nil => rfl
  | cons c first ih =>
    rw [List.cons_append, runAll_cons, runAll_cons, andThen_assoc]
    exact congrArg _ (funext ih)

/-! ### A bit time (R14, R15) -/

theorem readBit_of_not_running {s : State} (b : Bool) (h : s.running = false) : s.readBit b = .next s := by
  simp [State.readBit, h]

/-- A bit that amounts to no command and begins no frame changes the listener alone. -/
theorem readBit_of_no_command {s : State} {b : Bool} (h : s.running = true) (hc : (s.hears b).2 = [])
    (hb : (s.mapLine fun u => { u with listener := (s.hears b).1 }).mayBegin = false) :
    s.readBit b = .next (s.mapLine fun u => { u with listener := (s.hears b).1 }) := by
  simp [State.readBit, h, hc, hb]

/-- LTX is recessive outside an attempt (R14). -/
theorem ltx_of_no_attempt {s : State} (h : s.line.attempt = none) : s.ltx = true := by
  simp [State.ltx, State.attemptBits, h]

/-! ### An edge of the panel port (R195) -/

theorem psckRise_of_no_transaction {s : State} (b : Bool) (h : s.panel.transaction = none) : s.psckRise b = .next s := by
  simp [State.psckRise, h]

theorem psckFall_of_no_transaction {s : State} (h : s.panel.transaction = none) : s.psckFall = s := by
  simp only [State.psckFall, State.mapPanel, h, Option.map_none]
  rw [← h]

/-- A bit that is not the last of a request is sampled and changes nothing else. -/
theorem psckRise_of_no_request {s : State} {t : Transaction} {b : Bool} (h : s.panel.transaction = some t)
    (hr : Transaction.request { t with bits := t.bits ++ [b] } = none) :
    s.psckRise b = .next (s.mapPanel fun u => { u with transaction := some { t with bits := t.bits ++ [b] } }) := by
  simp [State.psckRise, h, hr]

/-- The last bit of a request carries it out. -/
theorem psckRise_of_request {s : State} {t : Transaction} {b : Bool} {c : Instr} (h : s.panel.transaction = some t)
    (hr : Transaction.request { t with bits := t.bits ++ [b] } = some c) :
    s.psckRise b = exec c (s.mapPanel fun u => { u with transaction := some { t with bits := t.bits ++ [b] } }) := by
  simp only [State.psckRise, h, hr, Option.toList_some, runAll_cons]
  cases exec c _ <;> rfl

theorem clockIn_append (first rest : List Bool) (s : State) :
    State.clockIn (first ++ rest) s = andThen (State.clockIn first s) (State.clockIn rest) := by
  induction first generalizing s with
  | nil => rfl
  | cons b first ih =>
    simp only [List.cons_append, State.clockIn, andThen_assoc]
    exact congrArg _ (funext fun t => ih _)

theorem selectPanel_frame (s : State) :
    s.selectPanel = { s with
      panel := { s.panel with transaction := s.selectPanel.panel.transaction, reply := s.selectPanel.panel.reply } } := by
  unfold State.selectPanel
  split <;> rfl

/-- With no RESTART waiting, the end of a transaction only ends it. -/
theorem deselectPanel_of_no_restart {s : State} (h : s.panel.restartPending = false) :
    s.deselectPanel = .next (s.mapPanel fun u => { u with transaction := none, reply := none }) := by
  simp [State.deselectPanel, exec, execRestartReset, State.mapPanel, h]

end Sys2Proof.Machine
end

