-- ==== Sys2Proof/Laws/FrameQueues.lean ====
section
/-! SUPPORT. What each shared operation of the event flags, the pins, the transmit queues and withdrawal leaves unchanged: one lemma each, all of it a simp set. -/

namespace Sys2Proof.Machine

@[simp] theorem raise_frame (e : EventFlag) (s : State) :
    (raise e s).pending = s.pending ∧ (raise e s).pins = s.pins ∧ (raise e s).resetRecord = s.resetRecord ∧
    (raise e s).cfg = s.cfg ∧ (raise e s).fresh = s.fresh ∧ (raise e s).line = s.line ∧
    (raise e s).peer = s.peer ∧ (raise e s).ticket = s.ticket ∧ (raise e s).sched = s.sched ∧
    (raise e s).door = s.door ∧ (raise e s).press = s.press ∧ (raise e s).car = s.car ∧
    (raise e s).store = s.store ∧ (raise e s).panel.mask = s.panel.mask ∧
    (raise e s).panel.stopn = s.panel.stopn ∧ (raise e s).panel.reply = s.panel.reply ∧
    (raise e s).panel.restartPending = s.panel.restartPending ∧ (raise e s).panel.transaction = s.panel.transaction := by
  simp [raise]

@[simp] theorem raiseIf_frame (b : Bool) (e : EventFlag) (s : State) :
    (raiseIf b e s).pending = s.pending ∧ (raiseIf b e s).pins = s.pins ∧
    (raiseIf b e s).resetRecord = s.resetRecord ∧ (raiseIf b e s).cfg = s.cfg ∧ (raiseIf b e s).fresh = s.fresh ∧
    (raiseIf b e s).line = s.line ∧ (raiseIf b e s).peer = s.peer ∧ (raiseIf b e s).ticket = s.ticket ∧
    (raiseIf b e s).sched = s.sched ∧ (raiseIf b e s).door = s.door ∧ (raiseIf b e s).press = s.press ∧
    (raiseIf b e s).car = s.car ∧ (raiseIf b e s).store = s.store ∧ (raiseIf b e s).panel.mask = s.panel.mask ∧
    (raiseIf b e s).panel.stopn = s.panel.stopn ∧ (raiseIf b e s).panel.reply = s.panel.reply ∧
    (raiseIf b e s).panel.restartPending = s.panel.restartPending ∧
    (raiseIf b e s).panel.transaction = s.panel.transaction := by
  unfold raiseIf; split <;> simp

@[simp] theorem clearFlags_frame (named : BitVec 20) (s : State) :
    (clearFlags named s).pending = s.pending ∧ (clearFlags named s).pins = s.pins ∧
    (clearFlags named s).resetRecord = s.resetRecord ∧ (clearFlags named s).cfg = s.cfg ∧
    (clearFlags named s).fresh = s.fresh ∧ (clearFlags named s).line = s.line ∧
    (clearFlags named s).peer = s.peer ∧ (clearFlags named s).ticket = s.ticket ∧
    (clearFlags named s).sched = s.sched ∧ (clearFlags named s).door = s.door ∧
    (clearFlags named s).press = s.press ∧ (clearFlags named s).car = s.car ∧
    (clearFlags named s).store = s.store ∧ (clearFlags named s).panel.mask = s.panel.mask ∧
    (clearFlags named s).panel.stopn = s.panel.stopn ∧ (clearFlags named s).panel.reply = s.panel.reply ∧
    (clearFlags named s).panel.restartPending = s.panel.restartPending ∧
    (clearFlags named s).panel.transaction = s.panel.transaction := by
  simp [clearFlags]

@[simp] theorem countRxGood_frame (s : State) :
    (countRxGood s).pending = s.pending ∧ (countRxGood s).pins = s.pins ∧
    (countRxGood s).resetRecord = s.resetRecord ∧ (countRxGood s).cfg = s.cfg ∧ (countRxGood s).fresh = s.fresh ∧
    (countRxGood s).line.state = s.line.state ∧ (countRxGood s).line.attempt = s.line.attempt ∧
    (countRxGood s).line.ownReturn = s.line.ownReturn ∧ (countRxGood s).line.score = s.line.score ∧
    (countRxGood s).line.withdrawTimer = s.line.withdrawTimer ∧ (countRxGood s).line.q0 = s.line.q0 ∧
    (countRxGood s).line.q1 = s.line.q1 ∧ (countRxGood s).line.q2 = s.line.q2 ∧
    (countRxGood s).line.q3 = s.line.q3 ∧ (countRxGood s).line.dropped = s.line.dropped ∧
    (countRxGood s).line.counters.rxBad = s.line.counters.rxBad ∧
    (countRxGood s).line.counters.txDone = s.line.counters.txDone ∧
    (countRxGood s).line.counters.txRetry = s.line.counters.txRetry ∧
    (countRxGood s).line.counters.txDrop = s.line.counters.txDrop ∧
    (countRxGood s).line.counters.lapses = s.line.counters.lapses ∧ (countRxGood s).peer = s.peer ∧
    (countRxGood s).ticket = s.ticket ∧ (countRxGood s).sched = s.sched ∧ (countRxGood s).door = s.door ∧
    (countRxGood s).press = s.press ∧ (countRxGood s).car = s.car ∧ (countRxGood s).store = s.store ∧
    (countRxGood s).panel = s.panel ∧ (countRxGood s).line.cutOff = s.line.cutOff ∧
    (countRxGood s).line.listener = s.line.listener := by
  simp [countRxGood]

@[simp] theorem countRxBad_frame (s : State) :
    (countRxBad s).pending = s.pending ∧ (countRxBad s).pins = s.pins ∧
    (countRxBad s).resetRecord = s.resetRecord ∧ (countRxBad s).cfg = s.cfg ∧ (countRxBad s).fresh = s.fresh ∧
    (countRxBad s).line.state = s.line.state ∧ (countRxBad s).line.attempt = s.line.attempt ∧
    (countRxBad s).line.ownReturn = s.line.ownReturn ∧ (countRxBad s).line.score = s.line.score ∧
    (countRxBad s).line.withdrawTimer = s.line.withdrawTimer ∧ (countRxBad s).line.q0 = s.line.q0 ∧
    (countRxBad s).line.q1 = s.line.q1 ∧ (countRxBad s).line.q2 = s.line.q2 ∧ (countRxBad s).line.q3 = s.line.q3 ∧
    (countRxBad s).line.dropped = s.line.dropped ∧ (countRxBad s).line.counters.rxGood = s.line.counters.rxGood ∧
    (countRxBad s).line.counters.txDone = s.line.counters.txDone ∧
    (countRxBad s).line.counters.txRetry = s.line.counters.txRetry ∧
    (countRxBad s).line.counters.txDrop = s.line.counters.txDrop ∧
    (countRxBad s).line.counters.lapses = s.line.counters.lapses ∧ (countRxBad s).peer = s.peer ∧
    (countRxBad s).ticket = s.ticket ∧ (countRxBad s).sched = s.sched ∧ (countRxBad s).door = s.door ∧
    (countRxBad s).press = s.press ∧ (countRxBad s).car = s.car ∧ (countRxBad s).store = s.store ∧
    (countRxBad s).panel = s.panel ∧ (countRxBad s).line.cutOff = s.line.cutOff ∧
    (countRxBad s).line.listener = s.line.listener := by
  simp [countRxBad]

@[simp] theorem countTxDone_frame (s : State) :
    (countTxDone s).pending = s.pending ∧ (countTxDone s).pins = s.pins ∧
    (countTxDone s).resetRecord = s.resetRecord ∧ (countTxDone s).cfg = s.cfg ∧ (countTxDone s).fresh = s.fresh ∧
    (countTxDone s).line.state = s.line.state ∧ (countTxDone s).line.attempt = s.line.attempt ∧
    (countTxDone s).line.ownReturn = s.line.ownReturn ∧ (countTxDone s).line.score = s.line.score ∧
    (countTxDone s).line.withdrawTimer = s.line.withdrawTimer ∧ (countTxDone s).line.q0 = s.line.q0 ∧
    (countTxDone s).line.q1 = s.line.q1 ∧ (countTxDone s).line.q2 = s.line.q2 ∧
    (countTxDone s).line.q3 = s.line.q3 ∧ (countTxDone s).line.dropped = s.line.dropped ∧
    (countTxDone s).line.counters.rxGood = s.line.counters.rxGood ∧
    (countTxDone s).line.counters.rxBad = s.line.counters.rxBad ∧
    (countTxDone s).line.counters.txRetry = s.line.counters.txRetry ∧
    (countTxDone s).line.counters.txDrop = s.line.counters.txDrop ∧
    (countTxDone s).line.counters.lapses = s.line.counters.lapses ∧ (countTxDone s).peer = s.peer ∧
    (countTxDone s).ticket = s.ticket ∧ (countTxDone s).sched = s.sched ∧ (countTxDone s).door = s.door ∧
    (countTxDone s).press = s.press ∧ (countTxDone s).car = s.car ∧ (countTxDone s).store = s.store ∧
    (countTxDone s).panel = s.panel ∧ (countTxDone s).line.cutOff = s.line.cutOff ∧
    (countTxDone s).line.listener = s.line.listener := by
  simp [countTxDone]

@[simp] theorem countTxRetry_frame (s : State) :
    (countTxRetry s).pending = s.pending ∧ (countTxRetry s).pins = s.pins ∧
    (countTxRetry s).resetRecord = s.resetRecord ∧ (countTxRetry s).cfg = s.cfg ∧
    (countTxRetry s).fresh = s.fresh ∧ (countTxRetry s).line.state = s.line.state ∧
    (countTxRetry s).line.attempt = s.line.attempt ∧ (countTxRetry s).line.ownReturn = s.line.ownReturn ∧
    (countTxRetry s).line.score = s.line.score ∧ (countTxRetry s).line.withdrawTimer = s.line.withdrawTimer ∧
    (countTxRetry s).line.q0 = s.line.q0 ∧ (countTxRetry s).line.q1 = s.line.q1 ∧
    (countTxRetry s).line.q2 = s.line.q2 ∧ (countTxRetry s).line.q3 = s.line.q3 ∧
    (countTxRetry s).line.dropped = s.line.dropped ∧
    (countTxRetry s).line.counters.rxGood = s.line.counters.rxGood ∧
    (countTxRetry s).line.counters.rxBad = s.line.counters.rxBad ∧
    (countTxRetry s).line.counters.txDone = s.line.counters.txDone ∧
    (countTxRetry s).line.counters.txDrop = s.line.counters.txDrop ∧
    (countTxRetry s).line.counters.lapses = s.line.counters.lapses ∧ (countTxRetry s).peer = s.peer ∧
    (countTxRetry s).ticket = s.ticket ∧ (countTxRetry s).sched = s.sched ∧ (countTxRetry s).door = s.door ∧
    (countTxRetry s).press = s.press ∧ (countTxRetry s).car = s.car ∧ (countTxRetry s).store = s.store ∧
    (countTxRetry s).panel = s.panel ∧ (countTxRetry s).line.cutOff = s.line.cutOff ∧
    (countTxRetry s).line.listener = s.line.listener := by
  simp [countTxRetry]

@[simp] theorem countTxDrop_frame (s : State) :
    (countTxDrop s).pending = s.pending ∧ (countTxDrop s).pins = s.pins ∧
    (countTxDrop s).resetRecord = s.resetRecord ∧ (countTxDrop s).cfg = s.cfg ∧ (countTxDrop s).fresh = s.fresh ∧
    (countTxDrop s).line.state = s.line.state ∧ (countTxDrop s).line.attempt = s.line.attempt ∧
    (countTxDrop s).line.ownReturn = s.line.ownReturn ∧ (countTxDrop s).line.score = s.line.score ∧
    (countTxDrop s).line.withdrawTimer = s.line.withdrawTimer ∧ (countTxDrop s).line.q0 = s.line.q0 ∧
    (countTxDrop s).line.q1 = s.line.q1 ∧ (countTxDrop s).line.q2 = s.line.q2 ∧
    (countTxDrop s).line.q3 = s.line.q3 ∧ (countTxDrop s).line.dropped = s.line.dropped ∧
    (countTxDrop s).line.counters.rxGood = s.line.counters.rxGood ∧
    (countTxDrop s).line.counters.rxBad = s.line.counters.rxBad ∧
    (countTxDrop s).line.counters.txDone = s.line.counters.txDone ∧
    (countTxDrop s).line.counters.txRetry = s.line.counters.txRetry ∧
    (countTxDrop s).line.counters.lapses = s.line.counters.lapses ∧ (countTxDrop s).peer = s.peer ∧
    (countTxDrop s).ticket = s.ticket ∧ (countTxDrop s).sched = s.sched ∧ (countTxDrop s).door = s.door ∧
    (countTxDrop s).press = s.press ∧ (countTxDrop s).car = s.car ∧ (countTxDrop s).store = s.store ∧
    (countTxDrop s).panel.mask = s.panel.mask ∧ (countTxDrop s).panel.stopn = s.panel.stopn ∧
    (countTxDrop s).panel.reply = s.panel.reply ∧ (countTxDrop s).panel.restartPending = s.panel.restartPending ∧
    (countTxDrop s).line.cutOff = s.line.cutOff ∧ (countTxDrop s).line.listener = s.line.listener ∧
    (countTxDrop s).panel.transaction = s.panel.transaction := by
  simp [countTxDrop]

@[simp] theorem countLapse_frame (s : State) :
    (countLapse s).pending = s.pending ∧ (countLapse s).pins = s.pins ∧
    (countLapse s).resetRecord = s.resetRecord ∧ (countLapse s).cfg = s.cfg ∧ (countLapse s).fresh = s.fresh ∧
    (countLapse s).line.state = s.line.state ∧ (countLapse s).line.attempt = s.line.attempt ∧
    (countLapse s).line.ownReturn = s.line.ownReturn ∧ (countLapse s).line.score = s.line.score ∧
    (countLapse s).line.withdrawTimer = s.line.withdrawTimer ∧ (countLapse s).line.q0 = s.line.q0 ∧
    (countLapse s).line.q1 = s.line.q1 ∧ (countLapse s).line.q2 = s.line.q2 ∧ (countLapse s).line.q3 = s.line.q3 ∧
    (countLapse s).line.dropped = s.line.dropped ∧ (countLapse s).line.counters.rxGood = s.line.counters.rxGood ∧
    (countLapse s).line.counters.rxBad = s.line.counters.rxBad ∧
    (countLapse s).line.counters.txDone = s.line.counters.txDone ∧
    (countLapse s).line.counters.txRetry = s.line.counters.txRetry ∧
    (countLapse s).line.counters.txDrop = s.line.counters.txDrop ∧ (countLapse s).peer = s.peer ∧
    (countLapse s).ticket = s.ticket ∧ (countLapse s).sched = s.sched ∧ (countLapse s).door = s.door ∧
    (countLapse s).press = s.press ∧ (countLapse s).car = s.car ∧ (countLapse s).store = s.store ∧
    (countLapse s).panel = s.panel ∧ (countLapse s).line.cutOff = s.line.cutOff ∧
    (countLapse s).line.listener = s.line.listener := by
  simp [countLapse]

@[simp] theorem want_frame (r : RecordId) (s : State) :
    (want r s).pending = s.pending ∧ (want r s).pins = s.pins ∧ (want r s).resetRecord = s.resetRecord ∧
    (want r s).cfg = s.cfg ∧ (want r s).fresh = s.fresh ∧ (want r s).line = s.line ∧ (want r s).peer = s.peer ∧
    (want r s).ticket = s.ticket ∧ (want r s).sched = s.sched ∧ (want r s).door = s.door ∧
    (want r s).press = s.press ∧ (want r s).car = s.car ∧ (want r s).store.array = s.store.array ∧
    (want r s).store.queue = s.store.queue ∧ (want r s).store.write = s.store.write ∧ (want r s).panel = s.panel := by
  simp [want]

@[simp] theorem setInput_frame (i : Nat) (b : Bool) (s : State) :
    (setInput i b s).pending = s.pending ∧ (setInput i b s).resetRecord = s.resetRecord ∧
    (setInput i b s).cfg = s.cfg ∧ (setInput i b s).fresh = s.fresh ∧ (setInput i b s).line = s.line ∧
    (setInput i b s).peer = s.peer ∧ (setInput i b s).ticket = s.ticket ∧ (setInput i b s).sched = s.sched ∧
    (setInput i b s).door = s.door ∧ (setInput i b s).press = s.press ∧ (setInput i b s).car = s.car ∧
    (setInput i b s).store = s.store ∧ (setInput i b s).panel = s.panel := by
  simp [setInput]

@[simp] theorem setLine_frame (l : RejectLine) (b : Bool) (s : State) :
    (setLine l b s).pending = s.pending ∧ (setLine l b s).resetRecord = s.resetRecord ∧
    (setLine l b s).cfg = s.cfg ∧ (setLine l b s).fresh = s.fresh ∧ (setLine l b s).line = s.line ∧
    (setLine l b s).peer = s.peer ∧ (setLine l b s).ticket = s.ticket ∧ (setLine l b s).sched = s.sched ∧
    (setLine l b s).door = s.door ∧ (setLine l b s).press = s.press ∧ (setLine l b s).car = s.car ∧
    (setLine l b s).store = s.store ∧ (setLine l b s).panel = s.panel := by
  unfold setLine; split <;> simp

@[simp] theorem settleClaim_frame (withBackoff : Bool) (s : State) :
    (settleClaim withBackoff s).pending = s.pending ∧ (settleClaim withBackoff s).pins = s.pins ∧
    (settleClaim withBackoff s).resetRecord = s.resetRecord ∧ (settleClaim withBackoff s).cfg = s.cfg ∧
    (settleClaim withBackoff s).fresh = s.fresh ∧ (settleClaim withBackoff s).line = s.line ∧
    (settleClaim withBackoff s).peer = s.peer ∧ (settleClaim withBackoff s).ticket.record = s.ticket.record ∧
    (settleClaim withBackoff s).ticket.lastDone = s.ticket.lastDone ∧
    (settleClaim withBackoff s).ticket.stopFlag = s.ticket.stopFlag ∧
    (settleClaim withBackoff s).ticket.pacing = s.ticket.pacing ∧
    (settleClaim withBackoff s).ticket.context = s.ticket.context ∧
    (settleClaim withBackoff s).sched.roster = s.sched.roster ∧
    (settleClaim withBackoff s).sched.cursor = s.sched.cursor ∧ (settleClaim withBackoff s).door = s.door ∧
    (settleClaim withBackoff s).press = s.press ∧ (settleClaim withBackoff s).car = s.car ∧
    (settleClaim withBackoff s).store = s.store ∧ (settleClaim withBackoff s).panel = s.panel := by
  unfold settleClaim; split <;> simp

@[simp] theorem openNotOffered_frame (s : State) :
    (openNotOffered s).pending = s.pending ∧ (openNotOffered s).pins = s.pins ∧
    (openNotOffered s).resetRecord = s.resetRecord ∧ (openNotOffered s).cfg = s.cfg ∧
    (openNotOffered s).fresh = s.fresh ∧ (openNotOffered s).line = s.line ∧ (openNotOffered s).peer = s.peer ∧
    (openNotOffered s).ticket.record = s.ticket.record ∧ (openNotOffered s).ticket.lastDone = s.ticket.lastDone ∧
    (openNotOffered s).ticket.stopFlag = s.ticket.stopFlag ∧ (openNotOffered s).ticket.claim = s.ticket.claim ∧
    (openNotOffered s).ticket.pacing = s.ticket.pacing ∧ (openNotOffered s).ticket.backoff = s.ticket.backoff ∧
    (openNotOffered s).sched = s.sched ∧ (openNotOffered s).door = s.door ∧ (openNotOffered s).press = s.press ∧
    (openNotOffered s).car = s.car ∧ (openNotOffered s).store = s.store ∧ (openNotOffered s).panel = s.panel := by
  simp [openNotOffered]

@[simp] theorem goNotOffered_frame (s : State) :
    (goNotOffered s).pending = s.pending ∧ (goNotOffered s).pins = s.pins ∧
    (goNotOffered s).resetRecord = s.resetRecord ∧ (goNotOffered s).cfg = s.cfg ∧
    (goNotOffered s).fresh = s.fresh ∧ (goNotOffered s).line = s.line ∧ (goNotOffered s).peer = s.peer ∧
    (goNotOffered s).ticket.record = s.ticket.record ∧ (goNotOffered s).ticket.lastDone = s.ticket.lastDone ∧
    (goNotOffered s).ticket.stopFlag = s.ticket.stopFlag ∧ (goNotOffered s).ticket.claim = s.ticket.claim ∧
    (goNotOffered s).ticket.pacing = s.ticket.pacing ∧ (goNotOffered s).ticket.backoff = s.ticket.backoff ∧
    (goNotOffered s).sched = s.sched ∧ (goNotOffered s).door = s.door ∧ (goNotOffered s).press = s.press ∧
    (goNotOffered s).car = s.car ∧ (goNotOffered s).store = s.store ∧ (goNotOffered s).panel = s.panel := by
  simp [goNotOffered]

@[simp] theorem keepDropped_frame (f : Frame) (s : State) :
    (keepDropped f s).pending = s.pending ∧ (keepDropped f s).pins = s.pins ∧
    (keepDropped f s).resetRecord = s.resetRecord ∧ (keepDropped f s).cfg = s.cfg ∧
    (keepDropped f s).fresh = s.fresh ∧ (keepDropped f s).line.state = s.line.state ∧
    (keepDropped f s).line.attempt = s.line.attempt ∧ (keepDropped f s).line.ownReturn = s.line.ownReturn ∧
    (keepDropped f s).line.score = s.line.score ∧ (keepDropped f s).line.withdrawTimer = s.line.withdrawTimer ∧
    (keepDropped f s).line.q0 = s.line.q0 ∧ (keepDropped f s).line.q1 = s.line.q1 ∧
    (keepDropped f s).line.q2 = s.line.q2 ∧ (keepDropped f s).line.q3 = s.line.q3 ∧
    (keepDropped f s).line.counters = s.line.counters ∧ (keepDropped f s).peer = s.peer ∧
    (keepDropped f s).ticket = s.ticket ∧ (keepDropped f s).sched = s.sched ∧ (keepDropped f s).door = s.door ∧
    (keepDropped f s).press = s.press ∧ (keepDropped f s).car = s.car ∧ (keepDropped f s).store = s.store ∧
    (keepDropped f s).panel = s.panel ∧ (keepDropped f s).line.cutOff = s.line.cutOff ∧
    (keepDropped f s).line.listener = s.line.listener := by
  simp [keepDropped]

@[simp] theorem onDrop_frame (f : Frame) (s : State) :
    (onDrop f s).pending = s.pending ∧ (onDrop f s).pins = s.pins ∧ (onDrop f s).resetRecord = s.resetRecord ∧
    (onDrop f s).cfg = s.cfg ∧ (onDrop f s).fresh = s.fresh ∧ (onDrop f s).line.state = s.line.state ∧
    (onDrop f s).line.attempt = s.line.attempt ∧ (onDrop f s).line.ownReturn = s.line.ownReturn ∧
    (onDrop f s).line.score = s.line.score ∧ (onDrop f s).line.withdrawTimer = s.line.withdrawTimer ∧
    (onDrop f s).line.q0 = s.line.q0 ∧ (onDrop f s).line.q1 = s.line.q1 ∧ (onDrop f s).line.q2 = s.line.q2 ∧
    (onDrop f s).line.q3 = s.line.q3 ∧ (onDrop f s).line.counters = s.line.counters ∧ (onDrop f s).peer = s.peer ∧
    (onDrop f s).ticket.record = s.ticket.record ∧ (onDrop f s).ticket.lastDone = s.ticket.lastDone ∧
    (onDrop f s).ticket.stopFlag = s.ticket.stopFlag ∧ (onDrop f s).ticket.pacing = s.ticket.pacing ∧
    (onDrop f s).sched.roster = s.sched.roster ∧ (onDrop f s).sched.cursor = s.sched.cursor ∧
    (onDrop f s).door = s.door ∧ (onDrop f s).press = s.press ∧ (onDrop f s).car = s.car ∧
    (onDrop f s).store = s.store ∧ (onDrop f s).panel = s.panel ∧ (onDrop f s).line.cutOff = s.line.cutOff ∧
    (onDrop f s).line.listener = s.line.listener := by
  unfold onDrop; (repeat' split) <;> simp

@[simp] theorem offer_frame (f : Frame) (s : State) :
    (offer f s).pending = s.pending ∧ (offer f s).pins = s.pins ∧ (offer f s).resetRecord = s.resetRecord ∧
    (offer f s).cfg = s.cfg ∧ (offer f s).fresh = s.fresh ∧ (offer f s).line.state = s.line.state ∧
    (offer f s).line.ownReturn = s.line.ownReturn ∧ (offer f s).line.score = s.line.score ∧
    (offer f s).line.withdrawTimer = s.line.withdrawTimer ∧
    (offer f s).line.counters.rxGood = s.line.counters.rxGood ∧
    (offer f s).line.counters.rxBad = s.line.counters.rxBad ∧
    (offer f s).line.counters.txDone = s.line.counters.txDone ∧
    (offer f s).line.counters.txRetry = s.line.counters.txRetry ∧
    (offer f s).line.counters.lapses = s.line.counters.lapses ∧ (offer f s).peer = s.peer ∧
    (offer f s).ticket.record = s.ticket.record ∧ (offer f s).ticket.lastDone = s.ticket.lastDone ∧
    (offer f s).ticket.stopFlag = s.ticket.stopFlag ∧ (offer f s).ticket.pacing = s.ticket.pacing ∧
    (offer f s).sched.roster = s.sched.roster ∧ (offer f s).sched.cursor = s.sched.cursor ∧
    (offer f s).door = s.door ∧ (offer f s).press = s.press ∧ (offer f s).car = s.car ∧
    (offer f s).store = s.store ∧ (offer f s).panel.mask = s.panel.mask ∧
    (offer f s).panel.stopn = s.panel.stopn ∧ (offer f s).panel.reply = s.panel.reply ∧
    (offer f s).panel.restartPending = s.panel.restartPending ∧ (offer f s).line.cutOff = s.line.cutOff ∧
    (offer f s).line.listener = s.line.listener ∧ (offer f s).panel.transaction = s.panel.transaction := by
  unfold offer; (repeat' split) <;> simp

@[simp] theorem offerOpt_frame (f : Option Frame) (s : State) :
    (offerOpt f s).pending = s.pending ∧ (offerOpt f s).pins = s.pins ∧
    (offerOpt f s).resetRecord = s.resetRecord ∧ (offerOpt f s).cfg = s.cfg ∧ (offerOpt f s).fresh = s.fresh ∧
    (offerOpt f s).line.state = s.line.state ∧ (offerOpt f s).line.ownReturn = s.line.ownReturn ∧
    (offerOpt f s).line.score = s.line.score ∧ (offerOpt f s).line.withdrawTimer = s.line.withdrawTimer ∧
    (offerOpt f s).line.counters.rxGood = s.line.counters.rxGood ∧
    (offerOpt f s).line.counters.rxBad = s.line.counters.rxBad ∧
    (offerOpt f s).line.counters.txDone = s.line.counters.txDone ∧
    (offerOpt f s).line.counters.txRetry = s.line.counters.txRetry ∧
    (offerOpt f s).line.counters.lapses = s.line.counters.lapses ∧ (offerOpt f s).peer = s.peer ∧
    (offerOpt f s).ticket.record = s.ticket.record ∧ (offerOpt f s).ticket.lastDone = s.ticket.lastDone ∧
    (offerOpt f s).ticket.stopFlag = s.ticket.stopFlag ∧ (offerOpt f s).ticket.pacing = s.ticket.pacing ∧
    (offerOpt f s).sched.roster = s.sched.roster ∧ (offerOpt f s).sched.cursor = s.sched.cursor ∧
    (offerOpt f s).door = s.door ∧ (offerOpt f s).press = s.press ∧ (offerOpt f s).car = s.car ∧
    (offerOpt f s).store = s.store ∧ (offerOpt f s).panel.mask = s.panel.mask ∧
    (offerOpt f s).panel.stopn = s.panel.stopn ∧ (offerOpt f s).panel.reply = s.panel.reply ∧
    (offerOpt f s).panel.restartPending = s.panel.restartPending ∧ (offerOpt f s).line.cutOff = s.line.cutOff ∧
    (offerOpt f s).line.listener = s.line.listener ∧ (offerOpt f s).panel.transaction = s.panel.transaction := by
  unfold offerOpt; split <;> simp

@[simp] theorem withdrawFrames_frame (p : Frame → Bool) (s : State) :
    (withdrawFrames p s).pending = s.pending ∧ (withdrawFrames p s).pins = s.pins ∧
    (withdrawFrames p s).resetRecord = s.resetRecord ∧ (withdrawFrames p s).cfg = s.cfg ∧
    (withdrawFrames p s).fresh = s.fresh ∧ (withdrawFrames p s).line.state = s.line.state ∧
    (withdrawFrames p s).line.attempt = s.line.attempt ∧ (withdrawFrames p s).line.ownReturn = s.line.ownReturn ∧
    (withdrawFrames p s).line.score = s.line.score ∧
    (withdrawFrames p s).line.withdrawTimer = s.line.withdrawTimer ∧ (withdrawFrames p s).line.q2 = s.line.q2 ∧
    (withdrawFrames p s).line.q3 = s.line.q3 ∧ (withdrawFrames p s).line.dropped = s.line.dropped ∧
    (withdrawFrames p s).line.counters = s.line.counters ∧ (withdrawFrames p s).peer = s.peer ∧
    (withdrawFrames p s).ticket = s.ticket ∧ (withdrawFrames p s).sched = s.sched ∧
    (withdrawFrames p s).door = s.door ∧ (withdrawFrames p s).press = s.press ∧ (withdrawFrames p s).car = s.car ∧
    (withdrawFrames p s).store = s.store ∧ (withdrawFrames p s).panel = s.panel ∧
    (withdrawFrames p s).line.cutOff = s.line.cutOff ∧ (withdrawFrames p s).line.listener = s.line.listener := by
  simp [withdrawFrames]

@[simp] theorem withdrawClaim_frame (s : State) :
    (withdrawClaim s).pending = s.pending ∧ (withdrawClaim s).pins = s.pins ∧
    (withdrawClaim s).resetRecord = s.resetRecord ∧ (withdrawClaim s).cfg = s.cfg ∧
    (withdrawClaim s).fresh = s.fresh ∧ (withdrawClaim s).line.state = s.line.state ∧
    (withdrawClaim s).line.attempt = s.line.attempt ∧ (withdrawClaim s).line.ownReturn = s.line.ownReturn ∧
    (withdrawClaim s).line.score = s.line.score ∧ (withdrawClaim s).line.withdrawTimer = s.line.withdrawTimer ∧
    (withdrawClaim s).line.q2 = s.line.q2 ∧ (withdrawClaim s).line.q3 = s.line.q3 ∧
    (withdrawClaim s).line.dropped = s.line.dropped ∧ (withdrawClaim s).line.counters = s.line.counters ∧
    (withdrawClaim s).peer = s.peer ∧ (withdrawClaim s).ticket.record = s.ticket.record ∧
    (withdrawClaim s).ticket.lastDone = s.ticket.lastDone ∧
    (withdrawClaim s).ticket.stopFlag = s.ticket.stopFlag ∧ (withdrawClaim s).ticket.pacing = s.ticket.pacing ∧
    (withdrawClaim s).ticket.context = s.ticket.context ∧ (withdrawClaim s).sched.roster = s.sched.roster ∧
    (withdrawClaim s).sched.cursor = s.sched.cursor ∧ (withdrawClaim s).door = s.door ∧
    (withdrawClaim s).press = s.press ∧ (withdrawClaim s).car = s.car ∧ (withdrawClaim s).store = s.store ∧
    (withdrawClaim s).panel = s.panel ∧ (withdrawClaim s).line.cutOff = s.line.cutOff ∧
    (withdrawClaim s).line.listener = s.line.listener := by
  exact ⟨
    by unfold withdrawClaim; split <;> first | rfl | exact withdrawFrame_keeps (fun s => s.pending) _ _ (fun _ _ => by simp) (fun _ => by simp) _,
    by unfold withdrawClaim; split <;> first | rfl | exact withdrawFrame_keeps (fun s => s.pins) _ _ (fun _ _ => by simp) (fun _ => by simp) _,
    by unfold withdrawClaim; split <;> first | rfl | exact withdrawFrame_keeps (fun s => s.resetRecord) _ _ (fun _ _ => by simp) (fun _ => by simp) _,
    by unfold withdrawClaim; split <;> first | rfl | exact withdrawFrame_keeps (fun s => s.cfg) _ _ (fun _ _ => by simp) (fun _ => by simp) _,
    by unfold withdrawClaim; split <;> first | rfl | exact withdrawFrame_keeps (fun s => s.fresh) _ _ (fun _ _ => by simp) (fun _ => by simp) _,
    by unfold withdrawClaim; split <;> first | rfl | exact withdrawFrame_keeps (fun s => s.line.state) _ _ (fun _ _ => by simp) (fun _ => by simp) _,
    by unfold withdrawClaim; split <;> first | rfl | exact withdrawFrame_keeps (fun s => s.line.attempt) _ _ (fun _ _ => by simp) (fun _ => by simp) _,
    by unfold withdrawClaim; split <;> first | rfl | exact withdrawFrame_keeps (fun s => s.line.ownReturn) _ _ (fun _ _ => by simp) (fun _ => by simp) _,
    by unfold withdrawClaim; split <;> first | rfl | exact withdrawFrame_keeps (fun s => s.line.score) _ _ (fun _ _ => by simp) (fun _ => by simp) _,
    by unfold withdrawClaim; split <;> first | rfl | exact withdrawFrame_keeps (fun s => s.line.withdrawTimer) _ _ (fun _ _ => by simp) (fun _ => by simp) _,
    by unfold withdrawClaim; split <;> first | rfl | exact withdrawFrame_keeps (fun s => s.line.q2) _ _ (fun _ _ => by simp) (fun _ => by simp) _,
    by unfold withdrawClaim; split <;> first | rfl | exact withdrawFrame_keeps (fun s => s.line.q3) _ _ (fun _ _ => by simp) (fun _ => by simp) _,
    by unfold withdrawClaim; split <;> first | rfl | exact withdrawFrame_keeps (fun s => s.line.dropped) _ _ (fun _ _ => by simp) (fun _ => by simp) _,
    by unfold withdrawClaim; split <;> first | rfl | exact withdrawFrame_keeps (fun s => s.line.counters) _ _ (fun _ _ => by simp) (fun _ => by simp) _,
    by unfold withdrawClaim; split <;> first | rfl | exact withdrawFrame_keeps (fun s => s.peer) _ _ (fun _ _ => by simp) (fun _ => by simp) _,
    by unfold withdrawClaim; split <;> first | rfl | exact withdrawFrame_keeps (fun s => s.ticket.record) _ _ (fun _ _ => by simp) (fun _ => by simp) _,
    by unfold withdrawClaim; split <;> first | rfl | exact withdrawFrame_keeps (fun s => s.ticket.lastDone) _ _ (fun _ _ => by simp) (fun _ => by simp) _,
    by unfold withdrawClaim; split <;> first | rfl | exact withdrawFrame_keeps (fun s => s.ticket.stopFlag) _ _ (fun _ _ => by simp) (fun _ => by simp) _,
    by unfold withdrawClaim; split <;> first | rfl | exact withdrawFrame_keeps (fun s => s.ticket.pacing) _ _ (fun _ _ => by simp) (fun _ => by simp) _,
    by unfold withdrawClaim; split <;> first | rfl | exact withdrawFrame_keeps (fun s => s.ticket.context) _ _ (fun _ _ => by simp) (fun _ => by simp) _,
    by unfold withdrawClaim; split <;> first | rfl | exact withdrawFrame_keeps (fun s => s.sched.roster) _ _ (fun _ _ => by simp) (fun _ => by simp) _,
    by unfold withdrawClaim; split <;> first | rfl | exact withdrawFrame_keeps (fun s => s.sched.cursor) _ _ (fun _ _ => by simp) (fun _ => by simp) _,
    by unfold withdrawClaim; split <;> first | rfl | exact withdrawFrame_keeps (fun s => s.door) _ _ (fun _ _ => by simp) (fun _ => by simp) _,
    by unfold withdrawClaim; split <;> first | rfl | exact withdrawFrame_keeps (fun s => s.press) _ _ (fun _ _ => by simp) (fun _ => by simp) _,
    by unfold withdrawClaim; split <;> first | rfl | exact withdrawFrame_keeps (fun s => s.car) _ _ (fun _ _ => by simp) (fun _ => by simp) _,
    by unfold withdrawClaim; split <;> first | rfl | exact withdrawFrame_keeps (fun s => s.store) _ _ (fun _ _ => by simp) (fun _ => by simp) _,
    by unfold withdrawClaim; split <;> first | rfl | exact withdrawFrame_keeps (fun s => s.panel) _ _ (fun _ _ => by simp) (fun _ => by simp) _,
    by unfold withdrawClaim; split <;> first | rfl | exact withdrawFrame_keeps (fun s => s.line.cutOff) _ _ (fun _ _ => by simp) (fun _ => by simp) _,
    by unfold withdrawClaim; split <;> first | rfl | exact withdrawFrame_keeps (fun s => s.line.listener) _ _ (fun _ _ => by simp) (fun _ => by simp) _⟩

@[simp] theorem withdrawOpenGo_frame (r : Record) (s : State) :
    (withdrawOpenGo r s).pending = s.pending ∧ (withdrawOpenGo r s).pins = s.pins ∧
    (withdrawOpenGo r s).resetRecord = s.resetRecord ∧ (withdrawOpenGo r s).cfg = s.cfg ∧
    (withdrawOpenGo r s).fresh = s.fresh ∧ (withdrawOpenGo r s).line.state = s.line.state ∧
    (withdrawOpenGo r s).line.attempt = s.line.attempt ∧ (withdrawOpenGo r s).line.ownReturn = s.line.ownReturn ∧
    (withdrawOpenGo r s).line.score = s.line.score ∧
    (withdrawOpenGo r s).line.withdrawTimer = s.line.withdrawTimer ∧ (withdrawOpenGo r s).line.q2 = s.line.q2 ∧
    (withdrawOpenGo r s).line.q3 = s.line.q3 ∧ (withdrawOpenGo r s).line.dropped = s.line.dropped ∧
    (withdrawOpenGo r s).line.counters = s.line.counters ∧ (withdrawOpenGo r s).peer = s.peer ∧
    (withdrawOpenGo r s).ticket.record = s.ticket.record ∧
    (withdrawOpenGo r s).ticket.lastDone = s.ticket.lastDone ∧
    (withdrawOpenGo r s).ticket.stopFlag = s.ticket.stopFlag ∧
    (withdrawOpenGo r s).ticket.claim = s.ticket.claim ∧ (withdrawOpenGo r s).ticket.pacing = s.ticket.pacing ∧
    (withdrawOpenGo r s).ticket.backoff = s.ticket.backoff ∧ (withdrawOpenGo r s).sched = s.sched ∧
    (withdrawOpenGo r s).door = s.door ∧ (withdrawOpenGo r s).press = s.press ∧ (withdrawOpenGo r s).car = s.car ∧
    (withdrawOpenGo r s).store = s.store ∧ (withdrawOpenGo r s).panel = s.panel ∧
    (withdrawOpenGo r s).line.cutOff = s.line.cutOff ∧ (withdrawOpenGo r s).line.listener = s.line.listener := by
  exact ⟨
    by unfold withdrawOpenGo; exact (withdrawFrame_keeps (fun s => s.pending) _ _ (fun _ _ => by simp) (fun _ => by simp) _).trans (withdrawFrame_keeps (fun s => s.pending) _ _ (fun _ _ => by simp) (fun _ => by simp) _),
    by unfold withdrawOpenGo; exact (withdrawFrame_keeps (fun s => s.pins) _ _ (fun _ _ => by simp) (fun _ => by simp) _).trans (withdrawFrame_keeps (fun s => s.pins) _ _ (fun _ _ => by simp) (fun _ => by simp) _),
    by unfold withdrawOpenGo; exact (withdrawFrame_keeps (fun s => s.resetRecord) _ _ (fun _ _ => by simp) (fun _ => by simp) _).trans (withdrawFrame_keeps (fun s => s.resetRecord) _ _ (fun _ _ => by simp) (fun _ => by simp) _),
    by unfold withdrawOpenGo; exact (withdrawFrame_keeps (fun s => s.cfg) _ _ (fun _ _ => by simp) (fun _ => by simp) _).trans (withdrawFrame_keeps (fun s => s.cfg) _ _ (fun _ _ => by simp) (fun _ => by simp) _),
    by unfold withdrawOpenGo; exact (withdrawFrame_keeps (fun s => s.fresh) _ _ (fun _ _ => by simp) (fun _ => by simp) _).trans (withdrawFrame_keeps (fun s => s.fresh) _ _ (fun _ _ => by simp) (fun _ => by simp) _),
    by unfold withdrawOpenGo; exact (withdrawFrame_keeps (fun s => s.line.state) _ _ (fun _ _ => by simp) (fun _ => by simp) _).trans (withdrawFrame_keeps (fun s => s.line.state) _ _ (fun _ _ => by simp) (fun _ => by simp) _),
    by unfold withdrawOpenGo; exact (withdrawFrame_keeps (fun s => s.line.attempt) _ _ (fun _ _ => by simp) (fun _ => by simp) _).trans (withdrawFrame_keeps (fun s => s.line.attempt) _ _ (fun _ _ => by simp) (fun _ => by simp) _),
    by unfold withdrawOpenGo; exact (withdrawFrame_keeps (fun s => s.line.ownReturn) _ _ (fun _ _ => by simp) (fun _ => by simp) _).trans (withdrawFrame_keeps (fun s => s.line.ownReturn) _ _ (fun _ _ => by simp) (fun _ => by simp) _),
    by unfold withdrawOpenGo; exact (withdrawFrame_keeps (fun s => s.line.score) _ _ (fun _ _ => by simp) (fun _ => by simp) _).trans (withdrawFrame_keeps (fun s => s.line.score) _ _ (fun _ _ => by simp) (fun _ => by simp) _),
    by unfold withdrawOpenGo; exact (withdrawFrame_keeps (fun s => s.line.withdrawTimer) _ _ (fun _ _ => by simp) (fun _ => by simp) _).trans (withdrawFrame_keeps (fun s => s.line.withdrawTimer) _ _ (fun _ _ => by simp) (fun _ => by simp) _),
    by unfold withdrawOpenGo; exact (withdrawFrame_keeps (fun s => s.line.q2) _ _ (fun _ _ => by simp) (fun _ => by simp) _).trans (withdrawFrame_keeps (fun s => s.line.q2) _ _ (fun _ _ => by simp) (fun _ => by simp) _),
    by unfold withdrawOpenGo; exact (withdrawFrame_keeps (fun s => s.line.q3) _ _ (fun _ _ => by simp) (fun _ => by simp) _).trans (withdrawFrame_keeps (fun s => s.line.q3) _ _ (fun _ _ => by simp) (fun _ => by simp) _),
    by unfold withdrawOpenGo; exact (withdrawFrame_keeps (fun s => s.line.dropped) _ _ (fun _ _ => by simp) (fun _ => by simp) _).trans (withdrawFrame_keeps (fun s => s.line.dropped) _ _ (fun _ _ => by simp) (fun _ => by simp) _),
    by unfold withdrawOpenGo; exact (withdrawFrame_keeps (fun s => s.line.counters) _ _ (fun _ _ => by simp) (fun _ => by simp) _).trans (withdrawFrame_keeps (fun s => s.line.counters) _ _ (fun _ _ => by simp) (fun _ => by simp) _),
    by unfold withdrawOpenGo; exact (withdrawFrame_keeps (fun s => s.peer) _ _ (fun _ _ => by simp) (fun _ => by simp) _).trans (withdrawFrame_keeps (fun s => s.peer) _ _ (fun _ _ => by simp) (fun _ => by simp) _),
    by unfold withdrawOpenGo; exact (withdrawFrame_keeps (fun s => s.ticket.record) _ _ (fun _ _ => by simp) (fun _ => by simp) _).trans (withdrawFrame_keeps (fun s => s.ticket.record) _ _ (fun _ _ => by simp) (fun _ => by simp) _),
    by unfold withdrawOpenGo; exact (withdrawFrame_keeps (fun s => s.ticket.lastDone) _ _ (fun _ _ => by simp) (fun _ => by simp) _).trans (withdrawFrame_keeps (fun s => s.ticket.lastDone) _ _ (fun _ _ => by simp) (fun _ => by simp) _),
    by unfold withdrawOpenGo; exact (withdrawFrame_keeps (fun s => s.ticket.stopFlag) _ _ (fun _ _ => by simp) (fun _ => by simp) _).trans (withdrawFrame_keeps (fun s => s.ticket.stopFlag) _ _ (fun _ _ => by simp) (fun _ => by simp) _),
    by unfold withdrawOpenGo; exact (withdrawFrame_keeps (fun s => s.ticket.claim) _ _ (fun _ _ => by simp) (fun _ => by simp) _).trans (withdrawFrame_keeps (fun s => s.ticket.claim) _ _ (fun _ _ => by simp) (fun _ => by simp) _),
    by unfold withdrawOpenGo; exact (withdrawFrame_keeps (fun s => s.ticket.pacing) _ _ (fun _ _ => by simp) (fun _ => by simp) _).trans (withdrawFrame_keeps (fun s => s.ticket.pacing) _ _ (fun _ _ => by simp) (fun _ => by simp) _),
    by unfold withdrawOpenGo; exact (withdrawFrame_keeps (fun s => s.ticket.backoff) _ _ (fun _ _ => by simp) (fun _ => by simp) _).trans (withdrawFrame_keeps (fun s => s.ticket.backoff) _ _ (fun _ _ => by simp) (fun _ => by simp) _),
    by unfold withdrawOpenGo; exact (withdrawFrame_keeps (fun s => s.sched) _ _ (fun _ _ => by simp) (fun _ => by simp) _).trans (withdrawFrame_keeps (fun s => s.sched) _ _ (fun _ _ => by simp) (fun _ => by simp) _),
    by unfold withdrawOpenGo; exact (withdrawFrame_keeps (fun s => s.door) _ _ (fun _ _ => by simp) (fun _ => by simp) _).trans (withdrawFrame_keeps (fun s => s.door) _ _ (fun _ _ => by simp) (fun _ => by simp) _),
    by unfold withdrawOpenGo; exact (withdrawFrame_keeps (fun s => s.press) _ _ (fun _ _ => by simp) (fun _ => by simp) _).trans (withdrawFrame_keeps (fun s => s.press) _ _ (fun _ _ => by simp) (fun _ => by simp) _),
    by unfold withdrawOpenGo; exact (withdrawFrame_keeps (fun s => s.car) _ _ (fun _ _ => by simp) (fun _ => by simp) _).trans (withdrawFrame_keeps (fun s => s.car) _ _ (fun _ _ => by simp) (fun _ => by simp) _),
    by unfold withdrawOpenGo; exact (withdrawFrame_keeps (fun s => s.store) _ _ (fun _ _ => by simp) (fun _ => by simp) _).trans (withdrawFrame_keeps (fun s => s.store) _ _ (fun _ _ => by simp) (fun _ => by simp) _),
    by unfold withdrawOpenGo; exact (withdrawFrame_keeps (fun s => s.panel) _ _ (fun _ _ => by simp) (fun _ => by simp) _).trans (withdrawFrame_keeps (fun s => s.panel) _ _ (fun _ _ => by simp) (fun _ => by simp) _),
    by unfold withdrawOpenGo; exact (withdrawFrame_keeps (fun s => s.line.cutOff) _ _ (fun _ _ => by simp) (fun _ => by simp) _).trans (withdrawFrame_keeps (fun s => s.line.cutOff) _ _ (fun _ _ => by simp) (fun _ => by simp) _),
    by unfold withdrawOpenGo; exact (withdrawFrame_keeps (fun s => s.line.listener) _ _ (fun _ _ => by simp) (fun _ => by simp) _).trans (withdrawFrame_keeps (fun s => s.line.listener) _ _ (fun _ _ => by simp) (fun _ => by simp) _)⟩

@[simp] theorem onMarkedRemoved_frame (f : Frame) (s : State) :
    (onMarkedRemoved f s).pending = s.pending ∧ (onMarkedRemoved f s).pins = s.pins ∧
    (onMarkedRemoved f s).resetRecord = s.resetRecord ∧ (onMarkedRemoved f s).cfg = s.cfg ∧
    (onMarkedRemoved f s).fresh = s.fresh ∧ (onMarkedRemoved f s).line = s.line ∧
    (onMarkedRemoved f s).peer = s.peer ∧ (onMarkedRemoved f s).ticket.record = s.ticket.record ∧
    (onMarkedRemoved f s).ticket.lastDone = s.ticket.lastDone ∧
    (onMarkedRemoved f s).ticket.stopFlag = s.ticket.stopFlag ∧
    (onMarkedRemoved f s).ticket.pacing = s.ticket.pacing ∧ (onMarkedRemoved f s).sched.roster = s.sched.roster ∧
    (onMarkedRemoved f s).sched.cursor = s.sched.cursor ∧ (onMarkedRemoved f s).door = s.door ∧
    (onMarkedRemoved f s).press = s.press ∧ (onMarkedRemoved f s).car = s.car ∧
    (onMarkedRemoved f s).store = s.store ∧ (onMarkedRemoved f s).panel = s.panel := by
  unfold onMarkedRemoved; (repeat' split) <;> simp

@[simp] theorem removeHead_frame (c : Nat) (s : State) :
    (removeHead c s).pending = s.pending ∧ (removeHead c s).pins = s.pins ∧
    (removeHead c s).resetRecord = s.resetRecord ∧ (removeHead c s).cfg = s.cfg ∧
    (removeHead c s).fresh = s.fresh ∧ (removeHead c s).line.state = s.line.state ∧
    (removeHead c s).line.attempt = s.line.attempt ∧ (removeHead c s).line.ownReturn = s.line.ownReturn ∧
    (removeHead c s).line.score = s.line.score ∧ (removeHead c s).line.withdrawTimer = s.line.withdrawTimer ∧
    (removeHead c s).line.dropped = s.line.dropped ∧ (removeHead c s).line.counters = s.line.counters ∧
    (removeHead c s).peer = s.peer ∧ (removeHead c s).ticket = s.ticket ∧ (removeHead c s).sched = s.sched ∧
    (removeHead c s).door = s.door ∧ (removeHead c s).press = s.press ∧ (removeHead c s).car = s.car ∧
    (removeHead c s).store = s.store ∧ (removeHead c s).panel = s.panel ∧
    (removeHead c s).line.cutOff = s.line.cutOff ∧ (removeHead c s).line.listener = s.line.listener := by
  simp [removeHead]

@[simp] theorem reofferDropped_frame (s : State) :
    (reofferDropped s).pending = s.pending ∧ (reofferDropped s).pins = s.pins ∧
    (reofferDropped s).resetRecord = s.resetRecord ∧ (reofferDropped s).cfg = s.cfg ∧
    (reofferDropped s).fresh = s.fresh ∧ (reofferDropped s).line.state = s.line.state ∧
    (reofferDropped s).line.ownReturn = s.line.ownReturn ∧ (reofferDropped s).line.score = s.line.score ∧
    (reofferDropped s).line.withdrawTimer = s.line.withdrawTimer ∧
    (reofferDropped s).line.counters.rxGood = s.line.counters.rxGood ∧
    (reofferDropped s).line.counters.rxBad = s.line.counters.rxBad ∧
    (reofferDropped s).line.counters.txDone = s.line.counters.txDone ∧
    (reofferDropped s).line.counters.txRetry = s.line.counters.txRetry ∧
    (reofferDropped s).line.counters.lapses = s.line.counters.lapses ∧ (reofferDropped s).peer = s.peer ∧
    (reofferDropped s).ticket.record = s.ticket.record ∧ (reofferDropped s).ticket.lastDone = s.ticket.lastDone ∧
    (reofferDropped s).ticket.stopFlag = s.ticket.stopFlag ∧ (reofferDropped s).ticket.pacing = s.ticket.pacing ∧
    (reofferDropped s).sched.roster = s.sched.roster ∧ (reofferDropped s).sched.cursor = s.sched.cursor ∧
    (reofferDropped s).door = s.door ∧ (reofferDropped s).press = s.press ∧ (reofferDropped s).car = s.car ∧
    (reofferDropped s).store = s.store ∧ (reofferDropped s).panel.mask = s.panel.mask ∧
    (reofferDropped s).panel.stopn = s.panel.stopn ∧ (reofferDropped s).panel.reply = s.panel.reply ∧
    (reofferDropped s).panel.restartPending = s.panel.restartPending ∧
    (reofferDropped s).line.cutOff = s.line.cutOff ∧ (reofferDropped s).line.listener = s.line.listener ∧
    (reofferDropped s).panel.transaction = s.panel.transaction := by
  exact ⟨
    by (unfold reofferDropped; exact (foldl_keeps (fun s => s.pending) _ _ (fun _ _ => by split <;> simp) _).trans (by simp)),
    by (unfold reofferDropped; exact (foldl_keeps (fun s => s.pins) _ _ (fun _ _ => by split <;> simp) _).trans (by simp)),
    by (unfold reofferDropped; exact (foldl_keeps (fun s => s.resetRecord) _ _ (fun _ _ => by split <;> simp) _).trans (by simp)),
    by (unfold reofferDropped; exact (foldl_keeps (fun s => s.cfg) _ _ (fun _ _ => by split <;> simp) _).trans (by simp)),
    by (unfold reofferDropped; exact (foldl_keeps (fun s => s.fresh) _ _ (fun _ _ => by split <;> simp) _).trans (by simp)),
    by (unfold reofferDropped; exact (foldl_keeps (fun s => s.line.state) _ _ (fun _ _ => by split <;> simp) _).trans (by simp)),
    by (unfold reofferDropped; exact (foldl_keeps (fun s => s.line.ownReturn) _ _ (fun _ _ => by split <;> simp) _).trans (by simp)),
    by (unfold reofferDropped; exact (foldl_keeps (fun s => s.line.score) _ _ (fun _ _ => by split <;> simp) _).trans (by simp)),
    by (unfold reofferDropped; exact (foldl_keeps (fun s => s.line.withdrawTimer) _ _ (fun _ _ => by split <;> simp) _).trans (by simp)),
    by (unfold reofferDropped; exact (foldl_keeps (fun s => s.line.counters.rxGood) _ _ (fun _ _ => by split <;> simp) _).trans (by simp)),
    by (unfold reofferDropped; exact (foldl_keeps (fun s => s.line.counters.rxBad) _ _ (fun _ _ => by split <;> simp) _).trans (by simp)),
    by (unfold reofferDropped; exact (foldl_keeps (fun s => s.line.counters.txDone) _ _ (fun _ _ => by split <;> simp) _).trans (by simp)),
    by (unfold reofferDropped; exact (foldl_keeps (fun s => s.line.counters.txRetry) _ _ (fun _ _ => by split <;> simp) _).trans (by simp)),
    by (unfold reofferDropped; exact (foldl_keeps (fun s => s.line.counters.lapses) _ _ (fun _ _ => by split <;> simp) _).trans (by simp)),
    by (unfold reofferDropped; exact (foldl_keeps (fun s => s.peer) _ _ (fun _ _ => by split <;> simp) _).trans (by simp)),
    by (unfold reofferDropped; exact (foldl_keeps (fun s => s.ticket.record) _ _ (fun _ _ => by split <;> simp) _).trans (by simp)),
    by (unfold reofferDropped; exact (foldl_keeps (fun s => s.ticket.lastDone) _ _ (fun _ _ => by split <;> simp) _).trans (by simp)),
    by (unfold reofferDropped; exact (foldl_keeps (fun s => s.ticket.stopFlag) _ _ (fun _ _ => by split <;> simp) _).trans (by simp)),
    by (unfold reofferDropped; exact (foldl_keeps (fun s => s.ticket.pacing) _ _ (fun _ _ => by split <;> simp) _).trans (by simp)),
    by (unfold reofferDropped; exact (foldl_keeps (fun s => s.sched.roster) _ _ (fun _ _ => by split <;> simp) _).trans (by simp)),
    by (unfold reofferDropped; exact (foldl_keeps (fun s => s.sched.cursor) _ _ (fun _ _ => by split <;> simp) _).trans (by simp)),
    by (unfold reofferDropped; exact (foldl_keeps (fun s => s.door) _ _ (fun _ _ => by split <;> simp) _).trans (by simp)),
    by (unfold reofferDropped; exact (foldl_keeps (fun s => s.press) _ _ (fun _ _ => by split <;> simp) _).trans (by simp)),
    by (unfold reofferDropped; exact (foldl_keeps (fun s => s.car) _ _ (fun _ _ => by split <;> simp) _).trans (by simp)),
    by (unfold reofferDropped; exact (foldl_keeps (fun s => s.store) _ _ (fun _ _ => by split <;> simp) _).trans (by simp)),
    by (unfold reofferDropped; exact (foldl_keeps (fun s => s.panel.mask) _ _ (fun _ _ => by split <;> simp) _).trans (by simp)),
    by (unfold reofferDropped; exact (foldl_keeps (fun s => s.panel.stopn) _ _ (fun _ _ => by split <;> simp) _).trans (by simp)),
    by (unfold reofferDropped; exact (foldl_keeps (fun s => s.panel.reply) _ _ (fun _ _ => by split <;> simp) _).trans (by simp)),
    by (unfold reofferDropped; exact (foldl_keeps (fun s => s.panel.restartPending) _ _ (fun _ _ => by split <;> simp) _).trans (by simp)),
    by (unfold reofferDropped; exact (foldl_keeps (fun s => s.line.cutOff) _ _ (fun _ _ => by split <;> simp) _).trans (by simp)),
    by (unfold reofferDropped; exact (foldl_keeps (fun s => s.line.listener) _ _ (fun _ _ => by split <;> simp) _).trans (by simp)),
    by (unfold reofferDropped; exact (foldl_keeps (fun s => s.panel.transaction) _ _ (fun _ _ => by split <;> simp) _).trans (by simp))⟩

@[simp] theorem forgetDropped_frame (t : Ticket) (o : Nat) (s : State) :
    (forgetDropped t o s).pending = s.pending ∧ (forgetDropped t o s).pins = s.pins ∧
    (forgetDropped t o s).resetRecord = s.resetRecord ∧ (forgetDropped t o s).cfg = s.cfg ∧
    (forgetDropped t o s).fresh = s.fresh ∧ (forgetDropped t o s).line.state = s.line.state ∧
    (forgetDropped t o s).line.attempt = s.line.attempt ∧
    (forgetDropped t o s).line.ownReturn = s.line.ownReturn ∧ (forgetDropped t o s).line.score = s.line.score ∧
    (forgetDropped t o s).line.withdrawTimer = s.line.withdrawTimer ∧ (forgetDropped t o s).line.q0 = s.line.q0 ∧
    (forgetDropped t o s).line.q1 = s.line.q1 ∧ (forgetDropped t o s).line.q2 = s.line.q2 ∧
    (forgetDropped t o s).line.q3 = s.line.q3 ∧ (forgetDropped t o s).line.counters = s.line.counters ∧
    (forgetDropped t o s).peer = s.peer ∧ (forgetDropped t o s).ticket = s.ticket ∧
    (forgetDropped t o s).sched = s.sched ∧ (forgetDropped t o s).door = s.door ∧
    (forgetDropped t o s).press = s.press ∧ (forgetDropped t o s).car = s.car ∧
    (forgetDropped t o s).store = s.store ∧ (forgetDropped t o s).panel = s.panel ∧
    (forgetDropped t o s).line.cutOff = s.line.cutOff ∧ (forgetDropped t o s).line.listener = s.line.listener := by
  simp [forgetDropped]

end Sys2Proof.Machine
end

