-- ==== Sys2Proof/Laws/FrameSection.lean ====
section
/-! SUPPORT. What each shared operation of the door, pressure and schedule units leaves unchanged: one lemma each, all of it a simp set. -/

namespace Sys2Proof.Machine

@[simp] theorem changeDoor_frame (k : Nat) (side : Side) (f : Door → Door) (s : State) :
    (changeDoor k side f s).pending = s.pending ∧ (changeDoor k side f s).pins = s.pins ∧
    (changeDoor k side f s).resetRecord = s.resetRecord ∧ (changeDoor k side f s).cfg = s.cfg ∧
    (changeDoor k side f s).fresh = s.fresh ∧ (changeDoor k side f s).line = s.line ∧
    (changeDoor k side f s).peer = s.peer ∧ (changeDoor k side f s).ticket = s.ticket ∧
    (changeDoor k side f s).sched = s.sched ∧ (changeDoor k side f s).press = s.press ∧
    (changeDoor k side f s).car = s.car ∧ (changeDoor k side f s).store = s.store ∧
    (changeDoor k side f s).panel.mask = s.panel.mask ∧ (changeDoor k side f s).panel.stopn = s.panel.stopn ∧
    (changeDoor k side f s).panel.reply = s.panel.reply ∧
    (changeDoor k side f s).panel.restartPending = s.panel.restartPending ∧
    (changeDoor k side f s).panel.transaction = s.panel.transaction := by
  unfold changeDoor; split <;> simp

@[simp] theorem changeDoors_frame (k : Nat) (f : Bool → Door → Door) (s : State) :
    (changeDoors k f s).pending = s.pending ∧ (changeDoors k f s).pins = s.pins ∧
    (changeDoors k f s).resetRecord = s.resetRecord ∧ (changeDoors k f s).cfg = s.cfg ∧
    (changeDoors k f s).fresh = s.fresh ∧ (changeDoors k f s).line = s.line ∧ (changeDoors k f s).peer = s.peer ∧
    (changeDoors k f s).ticket = s.ticket ∧ (changeDoors k f s).sched = s.sched ∧
    (changeDoors k f s).press = s.press ∧ (changeDoors k f s).car = s.car ∧ (changeDoors k f s).store = s.store ∧
    (changeDoors k f s).panel.mask = s.panel.mask ∧ (changeDoors k f s).panel.stopn = s.panel.stopn ∧
    (changeDoors k f s).panel.reply = s.panel.reply ∧
    (changeDoors k f s).panel.restartPending = s.panel.restartPending ∧
    (changeDoors k f s).panel.transaction = s.panel.transaction := by
  simp [changeDoors]

@[simp] theorem giveDeflate_frame (k : Nat) (s : State) :
    (giveDeflate k s).pending = s.pending ∧ (giveDeflate k s).pins = s.pins ∧
    (giveDeflate k s).resetRecord = s.resetRecord ∧ (giveDeflate k s).cfg = s.cfg ∧
    (giveDeflate k s).fresh = s.fresh ∧ (giveDeflate k s).line = s.line ∧ (giveDeflate k s).peer = s.peer ∧
    (giveDeflate k s).ticket = s.ticket ∧ (giveDeflate k s).sched = s.sched ∧ (giveDeflate k s).press = s.press ∧
    (giveDeflate k s).car = s.car ∧ (giveDeflate k s).store = s.store ∧
    (giveDeflate k s).panel.mask = s.panel.mask ∧ (giveDeflate k s).panel.stopn = s.panel.stopn ∧
    (giveDeflate k s).panel.reply = s.panel.reply ∧
    (giveDeflate k s).panel.restartPending = s.panel.restartPending ∧
    (giveDeflate k s).panel.transaction = s.panel.transaction := by
  simp [giveDeflate]

@[simp] theorem endDeflate_frame (k : Nat) (s : State) :
    (endDeflate k s).pending = s.pending ∧ (endDeflate k s).pins = s.pins ∧
    (endDeflate k s).resetRecord = s.resetRecord ∧ (endDeflate k s).cfg = s.cfg ∧
    (endDeflate k s).fresh = s.fresh ∧ (endDeflate k s).line = s.line ∧ (endDeflate k s).peer = s.peer ∧
    (endDeflate k s).ticket = s.ticket ∧ (endDeflate k s).sched = s.sched ∧ (endDeflate k s).press = s.press ∧
    (endDeflate k s).car = s.car ∧ (endDeflate k s).store = s.store ∧ (endDeflate k s).panel.mask = s.panel.mask ∧
    (endDeflate k s).panel.stopn = s.panel.stopn ∧ (endDeflate k s).panel.reply = s.panel.reply ∧
    (endDeflate k s).panel.restartPending = s.panel.restartPending ∧
    (endDeflate k s).panel.transaction = s.panel.transaction := by
  simp [endDeflate]

@[simp] theorem judgeMain_frame (failed : Bool) (reading : Int) (s : State) :
    (judgeMain failed reading s).pending = s.pending ∧ (judgeMain failed reading s).pins = s.pins ∧
    (judgeMain failed reading s).resetRecord = s.resetRecord ∧ (judgeMain failed reading s).cfg = s.cfg ∧
    (judgeMain failed reading s).fresh = s.fresh ∧ (judgeMain failed reading s).line = s.line ∧
    (judgeMain failed reading s).peer = s.peer ∧ (judgeMain failed reading s).ticket = s.ticket ∧
    (judgeMain failed reading s).sched = s.sched ∧ (judgeMain failed reading s).door = s.door ∧
    (judgeMain failed reading s).press.scanTimer = s.press.scanTimer ∧
    (judgeMain failed reading s).press.converting = s.press.converting ∧
    (judgeMain failed reading s).press.channels = s.press.channels ∧
    (judgeMain failed reading s).press.dampers = s.press.dampers ∧
    (judgeMain failed reading s).press.driven = s.press.driven ∧
    (judgeMain failed reading s).press.boundary = s.press.boundary ∧
    (judgeMain failed reading s).press.entries = s.press.entries ∧
    (judgeMain failed reading s).press.listHold = s.press.listHold ∧ (judgeMain failed reading s).car = s.car ∧
    (judgeMain failed reading s).store = s.store ∧ (judgeMain failed reading s).panel.mask = s.panel.mask ∧
    (judgeMain failed reading s).panel.stopn = s.panel.stopn ∧
    (judgeMain failed reading s).panel.reply = s.panel.reply ∧
    (judgeMain failed reading s).panel.restartPending = s.panel.restartPending ∧
    (judgeMain failed reading s).panel.transaction = s.panel.transaction := by
  simp [judgeMain]

@[simp] theorem refreshDampers_frame (s : State) :
    (refreshDampers s).pending = s.pending ∧ (refreshDampers s).pins = s.pins ∧
    (refreshDampers s).resetRecord = s.resetRecord ∧ (refreshDampers s).cfg = s.cfg ∧
    (refreshDampers s).fresh = s.fresh ∧ (refreshDampers s).line = s.line ∧ (refreshDampers s).peer = s.peer ∧
    (refreshDampers s).ticket = s.ticket ∧ (refreshDampers s).sched = s.sched ∧ (refreshDampers s).door = s.door ∧
    (refreshDampers s).press.scanTimer = s.press.scanTimer ∧
    (refreshDampers s).press.converting = s.press.converting ∧
    (refreshDampers s).press.channels = s.press.channels ∧ (refreshDampers s).press.main = s.press.main ∧
    (refreshDampers s).press.driven = s.press.driven ∧ (refreshDampers s).press.boundary = s.press.boundary ∧
    (refreshDampers s).press.entries = s.press.entries ∧ (refreshDampers s).press.listHold = s.press.listHold ∧
    (refreshDampers s).car = s.car ∧ (refreshDampers s).store = s.store ∧ (refreshDampers s).panel = s.panel := by
  simp [refreshDampers]

@[simp] theorem stepDamper_frame (k : Nat) (reading : Int) (s : State) :
    (stepDamper k reading s).pending = s.pending ∧ (stepDamper k reading s).pins = s.pins ∧
    (stepDamper k reading s).resetRecord = s.resetRecord ∧ (stepDamper k reading s).cfg = s.cfg ∧
    (stepDamper k reading s).fresh = s.fresh ∧ (stepDamper k reading s).line = s.line ∧
    (stepDamper k reading s).peer = s.peer ∧ (stepDamper k reading s).ticket = s.ticket ∧
    (stepDamper k reading s).sched = s.sched ∧ (stepDamper k reading s).door = s.door ∧
    (stepDamper k reading s).press.scanTimer = s.press.scanTimer ∧
    (stepDamper k reading s).press.converting = s.press.converting ∧
    (stepDamper k reading s).press.channels = s.press.channels ∧
    (stepDamper k reading s).press.main = s.press.main ∧ (stepDamper k reading s).press.driven = s.press.driven ∧
    (stepDamper k reading s).press.boundary = s.press.boundary ∧
    (stepDamper k reading s).press.entries = s.press.entries ∧
    (stepDamper k reading s).press.listHold = s.press.listHold ∧ (stepDamper k reading s).car = s.car ∧
    (stepDamper k reading s).store = s.store ∧ (stepDamper k reading s).panel = s.panel := by
  unfold stepDamper; split <;> simp

@[simp] theorem postConversion_frame (c : Nat) (raw : Raw) (s : State) :
    (postConversion c raw s).pending = s.pending ∧ (postConversion c raw s).pins = s.pins ∧
    (postConversion c raw s).resetRecord = s.resetRecord ∧ (postConversion c raw s).cfg = s.cfg ∧
    (postConversion c raw s).fresh = s.fresh ∧ (postConversion c raw s).line = s.line ∧
    (postConversion c raw s).peer = s.peer ∧ (postConversion c raw s).ticket = s.ticket ∧
    (postConversion c raw s).sched = s.sched ∧ (postConversion c raw s).door = s.door ∧
    (postConversion c raw s).press.scanTimer = s.press.scanTimer ∧
    (postConversion c raw s).press.converting = s.press.converting ∧
    (postConversion c raw s).press.driven = s.press.driven ∧
    (postConversion c raw s).press.boundary = s.press.boundary ∧
    (postConversion c raw s).press.entries = s.press.entries ∧
    (postConversion c raw s).press.listHold = s.press.listHold ∧ (postConversion c raw s).car = s.car ∧
    (postConversion c raw s).store = s.store ∧ (postConversion c raw s).panel.mask = s.panel.mask ∧
    (postConversion c raw s).panel.stopn = s.panel.stopn ∧ (postConversion c raw s).panel.reply = s.panel.reply ∧
    (postConversion c raw s).panel.restartPending = s.panel.restartPending ∧
    (postConversion c raw s).panel.transaction = s.panel.transaction := by
  simp only [postConversion]; (repeat' split) <;> simp

@[simp] theorem applyPositions_frame (s : State) :
    (applyPositions s).pending = s.pending ∧ (applyPositions s).pins = s.pins ∧
    (applyPositions s).resetRecord = s.resetRecord ∧ (applyPositions s).cfg = s.cfg ∧
    (applyPositions s).fresh = s.fresh ∧ (applyPositions s).line = s.line ∧ (applyPositions s).peer = s.peer ∧
    (applyPositions s).ticket = s.ticket ∧ (applyPositions s).sched = s.sched ∧ (applyPositions s).door = s.door ∧
    (applyPositions s).press.scanTimer = s.press.scanTimer ∧
    (applyPositions s).press.converting = s.press.converting ∧
    (applyPositions s).press.channels = s.press.channels ∧ (applyPositions s).press.main = s.press.main ∧
    (applyPositions s).press.entries = s.press.entries ∧ (applyPositions s).press.listHold = s.press.listHold ∧
    (applyPositions s).car = s.car ∧ (applyPositions s).store = s.store ∧ (applyPositions s).panel = s.panel := by
  simp [applyPositions]

@[simp] theorem admitEntry_frame (src : Nat) (oven : Nat) (s : State) :
    (admitEntry src oven s).pending = s.pending ∧ (admitEntry src oven s).pins = s.pins ∧
    (admitEntry src oven s).resetRecord = s.resetRecord ∧ (admitEntry src oven s).cfg = s.cfg ∧
    (admitEntry src oven s).fresh = s.fresh ∧ (admitEntry src oven s).line = s.line ∧
    (admitEntry src oven s).peer = s.peer ∧ (admitEntry src oven s).ticket = s.ticket ∧
    (admitEntry src oven s).sched = s.sched ∧ (admitEntry src oven s).door = s.door ∧
    (admitEntry src oven s).press.scanTimer = s.press.scanTimer ∧
    (admitEntry src oven s).press.converting = s.press.converting ∧
    (admitEntry src oven s).press.channels = s.press.channels ∧
    (admitEntry src oven s).press.main = s.press.main ∧ (admitEntry src oven s).press.dampers = s.press.dampers ∧
    (admitEntry src oven s).press.driven = s.press.driven ∧
    (admitEntry src oven s).press.boundary = s.press.boundary ∧
    (admitEntry src oven s).press.listHold = s.press.listHold ∧ (admitEntry src oven s).car = s.car ∧
    (admitEntry src oven s).store = s.store ∧ (admitEntry src oven s).panel = s.panel := by
  simp [admitEntry]

@[simp] theorem removeEntry_frame (src : Nat) (oven : Nat) (s : State) :
    (removeEntry src oven s).pending = s.pending ∧ (removeEntry src oven s).pins = s.pins ∧
    (removeEntry src oven s).resetRecord = s.resetRecord ∧ (removeEntry src oven s).cfg = s.cfg ∧
    (removeEntry src oven s).fresh = s.fresh ∧ (removeEntry src oven s).line = s.line ∧
    (removeEntry src oven s).peer = s.peer ∧ (removeEntry src oven s).ticket = s.ticket ∧
    (removeEntry src oven s).sched = s.sched ∧ (removeEntry src oven s).door = s.door ∧
    (removeEntry src oven s).press.scanTimer = s.press.scanTimer ∧
    (removeEntry src oven s).press.converting = s.press.converting ∧
    (removeEntry src oven s).press.channels = s.press.channels ∧
    (removeEntry src oven s).press.main = s.press.main ∧
    (removeEntry src oven s).press.dampers = s.press.dampers ∧
    (removeEntry src oven s).press.driven = s.press.driven ∧
    (removeEntry src oven s).press.boundary = s.press.boundary ∧
    (removeEntry src oven s).press.listHold = s.press.listHold ∧ (removeEntry src oven s).car = s.car ∧
    (removeEntry src oven s).store = s.store ∧ (removeEntry src oven s).panel = s.panel := by
  simp [removeEntry]

@[simp] theorem expireEntry_frame (oven : Nat) (s : State) :
    (expireEntry oven s).pending = s.pending ∧ (expireEntry oven s).pins = s.pins ∧
    (expireEntry oven s).resetRecord = s.resetRecord ∧ (expireEntry oven s).cfg = s.cfg ∧
    (expireEntry oven s).fresh = s.fresh ∧ (expireEntry oven s).line = s.line ∧
    (expireEntry oven s).peer = s.peer ∧ (expireEntry oven s).ticket = s.ticket ∧
    (expireEntry oven s).sched = s.sched ∧ (expireEntry oven s).door = s.door ∧
    (expireEntry oven s).press.scanTimer = s.press.scanTimer ∧
    (expireEntry oven s).press.converting = s.press.converting ∧
    (expireEntry oven s).press.channels = s.press.channels ∧ (expireEntry oven s).press.main = s.press.main ∧
    (expireEntry oven s).press.dampers = s.press.dampers ∧ (expireEntry oven s).press.driven = s.press.driven ∧
    (expireEntry oven s).press.boundary = s.press.boundary ∧
    (expireEntry oven s).press.listHold = s.press.listHold ∧ (expireEntry oven s).car = s.car ∧
    (expireEntry oven s).store = s.store ∧ (expireEntry oven s).panel.mask = s.panel.mask ∧
    (expireEntry oven s).panel.stopn = s.panel.stopn ∧ (expireEntry oven s).panel.reply = s.panel.reply ∧
    (expireEntry oven s).panel.restartPending = s.panel.restartPending ∧
    (expireEntry oven s).panel.transaction = s.panel.transaction := by
  unfold expireEntry; split <;> simp

@[simp] theorem changeOven_frame (k : Nat) (f : Oven → Oven) (s : State) :
    (changeOven k f s).pending = s.pending ∧ (changeOven k f s).pins = s.pins ∧
    (changeOven k f s).resetRecord = s.resetRecord ∧ (changeOven k f s).cfg = s.cfg ∧
    (changeOven k f s).fresh = s.fresh ∧ (changeOven k f s).line = s.line ∧ (changeOven k f s).peer = s.peer ∧
    (changeOven k f s).ticket = s.ticket ∧ (changeOven k f s).sched.roster = s.sched.roster ∧
    (changeOven k f s).sched.cursor = s.sched.cursor ∧ (changeOven k f s).door = s.door ∧
    (changeOven k f s).press = s.press ∧ (changeOven k f s).car = s.car ∧
    (changeOven k f s).store.array = s.store.array ∧ (changeOven k f s).store.queue = s.store.queue ∧
    (changeOven k f s).store.write = s.store.write ∧ (changeOven k f s).panel = s.panel := by
  simp only [changeOven]; (repeat' split) <;> simp

@[simp] theorem changeOvenRipening_frame (k : Nat) (f : Oven → Oven) (s : State) :
    (changeOvenRipening k f s).pending = s.pending ∧ (changeOvenRipening k f s).pins = s.pins ∧
    (changeOvenRipening k f s).resetRecord = s.resetRecord ∧ (changeOvenRipening k f s).cfg = s.cfg ∧
    (changeOvenRipening k f s).fresh = s.fresh ∧ (changeOvenRipening k f s).line = s.line ∧
    (changeOvenRipening k f s).peer = s.peer ∧ (changeOvenRipening k f s).ticket = s.ticket ∧
    (changeOvenRipening k f s).sched.roster = s.sched.roster ∧
    (changeOvenRipening k f s).sched.cursor = s.sched.cursor ∧ (changeOvenRipening k f s).door = s.door ∧
    (changeOvenRipening k f s).press = s.press ∧ (changeOvenRipening k f s).car = s.car ∧
    (changeOvenRipening k f s).store.array = s.store.array ∧
    (changeOvenRipening k f s).store.queue = s.store.queue ∧
    (changeOvenRipening k f s).store.write = s.store.write ∧
    (changeOvenRipening k f s).panel.mask = s.panel.mask ∧
    (changeOvenRipening k f s).panel.stopn = s.panel.stopn ∧
    (changeOvenRipening k f s).panel.reply = s.panel.reply ∧
    (changeOvenRipening k f s).panel.restartPending = s.panel.restartPending ∧
    (changeOvenRipening k f s).panel.transaction = s.panel.transaction := by
  unfold changeOvenRipening; split <;> simp

@[simp] theorem moveClocks_frame (old : Nat) (new : Nat) (s : State) :
    (moveClocks old new s).pending = s.pending ∧ (moveClocks old new s).pins = s.pins ∧
    (moveClocks old new s).resetRecord = s.resetRecord ∧ (moveClocks old new s).cfg = s.cfg ∧
    (moveClocks old new s).fresh = s.fresh ∧ (moveClocks old new s).line = s.line ∧
    (moveClocks old new s).peer = s.peer ∧ (moveClocks old new s).ticket = s.ticket ∧
    (moveClocks old new s).sched.roster = s.sched.roster ∧ (moveClocks old new s).sched.cursor = s.sched.cursor ∧
    (moveClocks old new s).door = s.door ∧ (moveClocks old new s).press = s.press ∧
    (moveClocks old new s).car = s.car ∧ (moveClocks old new s).store.array = s.store.array ∧
    (moveClocks old new s).store.queue = s.store.queue ∧ (moveClocks old new s).store.write = s.store.write ∧
    (moveClocks old new s).panel.mask = s.panel.mask ∧ (moveClocks old new s).panel.stopn = s.panel.stopn ∧
    (moveClocks old new s).panel.reply = s.panel.reply ∧
    (moveClocks old new s).panel.restartPending = s.panel.restartPending ∧
    (moveClocks old new s).panel.transaction = s.panel.transaction := by
  exact ⟨
    by exact forSlots_keeps (fun s => s.pending) _ (fun _ _ => by dsimp only; split <;> simp) _,
    by exact forSlots_keeps (fun s => s.pins) _ (fun _ _ => by dsimp only; split <;> simp) _,
    by exact forSlots_keeps (fun s => s.resetRecord) _ (fun _ _ => by dsimp only; split <;> simp) _,
    by exact forSlots_keeps (fun s => s.cfg) _ (fun _ _ => by dsimp only; split <;> simp) _,
    by exact forSlots_keeps (fun s => s.fresh) _ (fun _ _ => by dsimp only; split <;> simp) _,
    by exact forSlots_keeps (fun s => s.line) _ (fun _ _ => by dsimp only; split <;> simp) _,
    by exact forSlots_keeps (fun s => s.peer) _ (fun _ _ => by dsimp only; split <;> simp) _,
    by exact forSlots_keeps (fun s => s.ticket) _ (fun _ _ => by dsimp only; split <;> simp) _,
    by exact forSlots_keeps (fun s => s.sched.roster) _ (fun _ _ => by dsimp only; split <;> simp) _,
    by exact forSlots_keeps (fun s => s.sched.cursor) _ (fun _ _ => by dsimp only; split <;> simp) _,
    by exact forSlots_keeps (fun s => s.door) _ (fun _ _ => by dsimp only; split <;> simp) _,
    by exact forSlots_keeps (fun s => s.press) _ (fun _ _ => by dsimp only; split <;> simp) _,
    by exact forSlots_keeps (fun s => s.car) _ (fun _ _ => by dsimp only; split <;> simp) _,
    by exact forSlots_keeps (fun s => s.store.array) _ (fun _ _ => by dsimp only; split <;> simp) _,
    by exact forSlots_keeps (fun s => s.store.queue) _ (fun _ _ => by dsimp only; split <;> simp) _,
    by exact forSlots_keeps (fun s => s.store.write) _ (fun _ _ => by dsimp only; split <;> simp) _,
    by exact forSlots_keeps (fun s => s.panel.mask) _ (fun _ _ => by dsimp only; split <;> simp) _,
    by exact forSlots_keeps (fun s => s.panel.stopn) _ (fun _ _ => by dsimp only; split <;> simp) _,
    by exact forSlots_keeps (fun s => s.panel.reply) _ (fun _ _ => by dsimp only; split <;> simp) _,
    by exact forSlots_keeps (fun s => s.panel.restartPending) _ (fun _ _ => by dsimp only; split <;> simp) _,
    by exact forSlots_keeps (fun s => s.panel.transaction) _ (fun _ _ => by dsimp only; split <;> simp) _⟩

@[simp] theorem setRoster_frame (oven : Nat) (e : RosterEntry) (s : State) :
    (setRoster oven e s).pending = s.pending ∧ (setRoster oven e s).pins = s.pins ∧
    (setRoster oven e s).resetRecord = s.resetRecord ∧ (setRoster oven e s).cfg = s.cfg ∧
    (setRoster oven e s).fresh = s.fresh ∧ (setRoster oven e s).line = s.line ∧
    (setRoster oven e s).peer = s.peer ∧ (setRoster oven e s).ticket = s.ticket ∧
    (setRoster oven e s).sched.ovens = s.sched.ovens ∧ (setRoster oven e s).sched.cursor = s.sched.cursor ∧
    (setRoster oven e s).door = s.door ∧ (setRoster oven e s).press = s.press ∧ (setRoster oven e s).car = s.car ∧
    (setRoster oven e s).store = s.store ∧ (setRoster oven e s).panel = s.panel := by
  unfold setRoster; split <;> simp

@[simp] theorem refreshOwnRoster_frame (s : State) :
    (refreshOwnRoster s).pending = s.pending ∧ (refreshOwnRoster s).pins = s.pins ∧
    (refreshOwnRoster s).resetRecord = s.resetRecord ∧ (refreshOwnRoster s).cfg = s.cfg ∧
    (refreshOwnRoster s).fresh = s.fresh ∧ (refreshOwnRoster s).line = s.line ∧
    (refreshOwnRoster s).peer = s.peer ∧ (refreshOwnRoster s).ticket = s.ticket ∧
    (refreshOwnRoster s).sched.ovens = s.sched.ovens ∧ (refreshOwnRoster s).sched.cursor = s.sched.cursor ∧
    (refreshOwnRoster s).door = s.door ∧ (refreshOwnRoster s).press = s.press ∧ (refreshOwnRoster s).car = s.car ∧
    (refreshOwnRoster s).store = s.store ∧ (refreshOwnRoster s).panel = s.panel := by
  exact ⟨
    by exact foldl_keeps (fun s => s.pending) _ _ (fun _ _ => by simp) _,
    by exact foldl_keeps (fun s => s.pins) _ _ (fun _ _ => by simp) _,
    by exact foldl_keeps (fun s => s.resetRecord) _ _ (fun _ _ => by simp) _,
    by exact foldl_keeps (fun s => s.cfg) _ _ (fun _ _ => by simp) _,
    by exact foldl_keeps (fun s => s.fresh) _ _ (fun _ _ => by simp) _,
    by exact foldl_keeps (fun s => s.line) _ _ (fun _ _ => by simp) _,
    by exact foldl_keeps (fun s => s.peer) _ _ (fun _ _ => by simp) _,
    by exact foldl_keeps (fun s => s.ticket) _ _ (fun _ _ => by simp) _,
    by exact foldl_keeps (fun s => s.sched.ovens) _ _ (fun _ _ => by simp) _,
    by exact foldl_keeps (fun s => s.sched.cursor) _ _ (fun _ _ => by simp) _,
    by exact foldl_keeps (fun s => s.door) _ _ (fun _ _ => by simp) _,
    by exact foldl_keeps (fun s => s.press) _ _ (fun _ _ => by simp) _,
    by exact foldl_keeps (fun s => s.car) _ _ (fun _ _ => by simp) _,
    by exact foldl_keeps (fun s => s.store) _ _ (fun _ _ => by simp) _,
    by exact foldl_keeps (fun s => s.panel) _ _ (fun _ _ => by simp) _⟩

@[simp] theorem writeRoster_frame (src : Nat) (oven : Nat) (summary : Summary) (minutes : Nat) (s : State) :
    (writeRoster src oven summary minutes s).pending = s.pending ∧
    (writeRoster src oven summary minutes s).pins = s.pins ∧
    (writeRoster src oven summary minutes s).resetRecord = s.resetRecord ∧
    (writeRoster src oven summary minutes s).cfg = s.cfg ∧
    (writeRoster src oven summary minutes s).fresh = s.fresh ∧
    (writeRoster src oven summary minutes s).line = s.line ∧
    (writeRoster src oven summary minutes s).peer = s.peer ∧
    (writeRoster src oven summary minutes s).ticket = s.ticket ∧
    (writeRoster src oven summary minutes s).sched.ovens = s.sched.ovens ∧
    (writeRoster src oven summary minutes s).sched.cursor = s.sched.cursor ∧
    (writeRoster src oven summary minutes s).door = s.door ∧
    (writeRoster src oven summary minutes s).press = s.press ∧
    (writeRoster src oven summary minutes s).car = s.car ∧
    (writeRoster src oven summary minutes s).store = s.store ∧
    (writeRoster src oven summary minutes s).panel.mask = s.panel.mask ∧
    (writeRoster src oven summary minutes s).panel.stopn = s.panel.stopn ∧
    (writeRoster src oven summary minutes s).panel.reply = s.panel.reply ∧
    (writeRoster src oven summary minutes s).panel.restartPending = s.panel.restartPending ∧
    (writeRoster src oven summary minutes s).panel.transaction = s.panel.transaction := by
  simp only [writeRoster]; (repeat' split) <;> simp

@[simp] theorem takeRosterList_frame (src : Nat) (items : List RosterItem) (s : State) :
    (takeRosterList src items s).pending = s.pending ∧ (takeRosterList src items s).pins = s.pins ∧
    (takeRosterList src items s).resetRecord = s.resetRecord ∧ (takeRosterList src items s).cfg = s.cfg ∧
    (takeRosterList src items s).fresh = s.fresh ∧ (takeRosterList src items s).line = s.line ∧
    (takeRosterList src items s).peer = s.peer ∧ (takeRosterList src items s).ticket = s.ticket ∧
    (takeRosterList src items s).sched.ovens = s.sched.ovens ∧
    (takeRosterList src items s).sched.cursor = s.sched.cursor ∧ (takeRosterList src items s).door = s.door ∧
    (takeRosterList src items s).press = s.press ∧ (takeRosterList src items s).car = s.car ∧
    (takeRosterList src items s).store = s.store ∧ (takeRosterList src items s).panel.mask = s.panel.mask ∧
    (takeRosterList src items s).panel.stopn = s.panel.stopn ∧
    (takeRosterList src items s).panel.reply = s.panel.reply ∧
    (takeRosterList src items s).panel.restartPending = s.panel.restartPending ∧
    (takeRosterList src items s).panel.transaction = s.panel.transaction := by
  exact ⟨
    by unfold takeRosterList; dsimp only; simp; exact foldl_keeps (fun s => s.pending) _ _ (fun _ _ => by simp) _,
    by unfold takeRosterList; dsimp only; simp; exact foldl_keeps (fun s => s.pins) _ _ (fun _ _ => by simp) _,
    by unfold takeRosterList; dsimp only; simp; exact foldl_keeps (fun s => s.resetRecord) _ _ (fun _ _ => by simp) _,
    by unfold takeRosterList; dsimp only; simp; exact foldl_keeps (fun s => s.cfg) _ _ (fun _ _ => by simp) _,
    by unfold takeRosterList; dsimp only; simp; exact foldl_keeps (fun s => s.fresh) _ _ (fun _ _ => by simp) _,
    by unfold takeRosterList; dsimp only; simp; exact foldl_keeps (fun s => s.line) _ _ (fun _ _ => by simp) _,
    by unfold takeRosterList; dsimp only; simp; exact foldl_keeps (fun s => s.peer) _ _ (fun _ _ => by simp) _,
    by unfold takeRosterList; dsimp only; simp; exact foldl_keeps (fun s => s.ticket) _ _ (fun _ _ => by simp) _,
    by unfold takeRosterList; dsimp only; simp; exact foldl_keeps (fun s => s.sched.ovens) _ _ (fun _ _ => by simp) _,
    by unfold takeRosterList; dsimp only; simp; exact foldl_keeps (fun s => s.sched.cursor) _ _ (fun _ _ => by simp) _,
    by unfold takeRosterList; dsimp only; simp; exact foldl_keeps (fun s => s.door) _ _ (fun _ _ => by simp) _,
    by unfold takeRosterList; dsimp only; simp; exact foldl_keeps (fun s => s.press) _ _ (fun _ _ => by simp) _,
    by unfold takeRosterList; dsimp only; simp; exact foldl_keeps (fun s => s.car) _ _ (fun _ _ => by simp) _,
    by unfold takeRosterList; dsimp only; simp; exact foldl_keeps (fun s => s.store) _ _ (fun _ _ => by simp) _,
    by unfold takeRosterList; dsimp only; simp; exact foldl_keeps (fun s => s.panel.mask) _ _ (fun _ _ => by simp) _,
    by unfold takeRosterList; dsimp only; simp; exact foldl_keeps (fun s => s.panel.stopn) _ _ (fun _ _ => by simp) _,
    by unfold takeRosterList; dsimp only; simp; exact foldl_keeps (fun s => s.panel.reply) _ _ (fun _ _ => by simp) _,
    by unfold takeRosterList; dsimp only; simp; exact foldl_keeps (fun s => s.panel.restartPending) _ _ (fun _ _ => by simp) _,
    by unfold takeRosterList; dsimp only; simp; exact foldl_keeps (fun s => s.panel.transaction) _ _ (fun _ _ => by simp) _⟩

@[simp] theorem staleRoster_frame (src : Nat) (s : State) :
    (staleRoster src s).pending = s.pending ∧ (staleRoster src s).pins = s.pins ∧
    (staleRoster src s).resetRecord = s.resetRecord ∧ (staleRoster src s).cfg = s.cfg ∧
    (staleRoster src s).fresh = s.fresh ∧ (staleRoster src s).line = s.line ∧ (staleRoster src s).peer = s.peer ∧
    (staleRoster src s).ticket = s.ticket ∧ (staleRoster src s).sched.ovens = s.sched.ovens ∧
    (staleRoster src s).sched.cursor = s.sched.cursor ∧ (staleRoster src s).door = s.door ∧
    (staleRoster src s).press = s.press ∧ (staleRoster src s).car = s.car ∧ (staleRoster src s).store = s.store ∧
    (staleRoster src s).panel = s.panel := by
  simp [staleRoster]

@[simp] theorem setCursor_frame (n : Nat) (s : State) :
    (setCursor n s).pending = s.pending ∧ (setCursor n s).pins = s.pins ∧
    (setCursor n s).resetRecord = s.resetRecord ∧ (setCursor n s).cfg = s.cfg ∧ (setCursor n s).fresh = s.fresh ∧
    (setCursor n s).line = s.line ∧ (setCursor n s).peer = s.peer ∧ (setCursor n s).ticket = s.ticket ∧
    (setCursor n s).sched.ovens = s.sched.ovens ∧ (setCursor n s).sched.roster = s.sched.roster ∧
    (setCursor n s).door = s.door ∧ (setCursor n s).press = s.press ∧ (setCursor n s).car = s.car ∧
    (setCursor n s).store.array = s.store.array ∧ (setCursor n s).store.queue = s.store.queue ∧
    (setCursor n s).store.write = s.store.write ∧ (setCursor n s).panel = s.panel := by
  unfold setCursor; split <;> simp

end Sys2Proof.Machine
end

