-- ==== Sys2Proof/Laws/FrameCar.lean ====
section
/-! SUPPORT. What each shared operation of the car unit leaves unchanged: one lemma each, all of it a simp set. -/

namespace Sys2Proof.Machine

@[simp] theorem setQuench_frame (p : QuenchPhase) (s : State) :
    (setQuench p s).pending = s.pending ∧ (setQuench p s).pins = s.pins ∧
    (setQuench p s).resetRecord = s.resetRecord ∧ (setQuench p s).cfg = s.cfg ∧ (setQuench p s).fresh = s.fresh ∧
    (setQuench p s).line = s.line ∧ (setQuench p s).peer = s.peer ∧ (setQuench p s).ticket = s.ticket ∧
    (setQuench p s).sched = s.sched ∧ (setQuench p s).door = s.door ∧ (setQuench p s).press = s.press ∧
    (setQuench p s).car.position = s.car.position ∧ (setQuench p s).car.state = s.car.state ∧
    (setQuench p s).car.action = s.car.action ∧ (setQuench p s).car.served = s.car.served ∧
    (setQuench p s).car.doorHeld = s.car.doorHeld ∧ (setQuench p s).car.stallHeld = s.car.stallHeld ∧
    (setQuench p s).car.faultDeclined = s.car.faultDeclined ∧
    (setQuench p s).car.markerLimit = s.car.markerLimit ∧ (setQuench p s).car.actionLimit = s.car.actionLimit ∧
    (setQuench p s).car.queue = s.car.queue ∧ (setQuench p s).car.inProgress = s.car.inProgress ∧
    (setQuench p s).car.direction = s.car.direction ∧ (setQuench p s).car.hotTravel = s.car.hotTravel ∧
    (setQuench p s).car.quenchTimer = s.car.quenchTimer ∧ (setQuench p s).car.drainTimer = s.car.drainTimer ∧
    (setQuench p s).car.marker = s.car.marker ∧ (setQuench p s).car.home = s.car.home ∧
    (setQuench p s).store.array = s.store.array ∧ (setQuench p s).store.queue = s.store.queue ∧
    (setQuench p s).store.write = s.store.write ∧ (setQuench p s).panel = s.panel ∧
    (setQuench p s).car.actionServes = s.car.actionServes := by
  simp only [setQuench]; (repeat' split) <;> simp

@[simp] theorem declineRemoved_frame (m : Move) (s : State) :
    (declineRemoved m s).pending = s.pending ∧ (declineRemoved m s).pins = s.pins ∧
    (declineRemoved m s).resetRecord = s.resetRecord ∧ (declineRemoved m s).cfg = s.cfg ∧
    (declineRemoved m s).fresh = s.fresh ∧ (declineRemoved m s).line.state = s.line.state ∧
    (declineRemoved m s).line.ownReturn = s.line.ownReturn ∧ (declineRemoved m s).line.score = s.line.score ∧
    (declineRemoved m s).line.withdrawTimer = s.line.withdrawTimer ∧
    (declineRemoved m s).line.counters.rxGood = s.line.counters.rxGood ∧
    (declineRemoved m s).line.counters.rxBad = s.line.counters.rxBad ∧
    (declineRemoved m s).line.counters.txDone = s.line.counters.txDone ∧
    (declineRemoved m s).line.counters.txRetry = s.line.counters.txRetry ∧
    (declineRemoved m s).line.counters.lapses = s.line.counters.lapses ∧ (declineRemoved m s).peer = s.peer ∧
    (declineRemoved m s).ticket.record = s.ticket.record ∧
    (declineRemoved m s).ticket.lastDone = s.ticket.lastDone ∧
    (declineRemoved m s).ticket.stopFlag = s.ticket.stopFlag ∧
    (declineRemoved m s).ticket.pacing = s.ticket.pacing ∧ (declineRemoved m s).sched.roster = s.sched.roster ∧
    (declineRemoved m s).sched.cursor = s.sched.cursor ∧ (declineRemoved m s).door = s.door ∧
    (declineRemoved m s).press = s.press ∧ (declineRemoved m s).car = s.car ∧
    (declineRemoved m s).store = s.store ∧ (declineRemoved m s).panel.mask = s.panel.mask ∧
    (declineRemoved m s).panel.stopn = s.panel.stopn ∧ (declineRemoved m s).panel.reply = s.panel.reply ∧
    (declineRemoved m s).panel.restartPending = s.panel.restartPending ∧
    (declineRemoved m s).line.cutOff = s.line.cutOff ∧ (declineRemoved m s).line.listener = s.line.listener ∧
    (declineRemoved m s).panel.transaction = s.panel.transaction := by
  unfold declineRemoved; (repeat' split) <;> simp

@[simp] theorem queueHead_frame (m : Move) (s : State) :
    (queueHead m s).pending = s.pending ∧ (queueHead m s).pins = s.pins ∧
    (queueHead m s).resetRecord = s.resetRecord ∧ (queueHead m s).cfg = s.cfg ∧ (queueHead m s).fresh = s.fresh ∧
    (queueHead m s).line.state = s.line.state ∧ (queueHead m s).line.ownReturn = s.line.ownReturn ∧
    (queueHead m s).line.score = s.line.score ∧ (queueHead m s).line.withdrawTimer = s.line.withdrawTimer ∧
    (queueHead m s).line.counters.rxGood = s.line.counters.rxGood ∧
    (queueHead m s).line.counters.rxBad = s.line.counters.rxBad ∧
    (queueHead m s).line.counters.txDone = s.line.counters.txDone ∧
    (queueHead m s).line.counters.txRetry = s.line.counters.txRetry ∧
    (queueHead m s).line.counters.lapses = s.line.counters.lapses ∧ (queueHead m s).peer = s.peer ∧
    (queueHead m s).ticket.record = s.ticket.record ∧ (queueHead m s).ticket.lastDone = s.ticket.lastDone ∧
    (queueHead m s).ticket.stopFlag = s.ticket.stopFlag ∧ (queueHead m s).ticket.pacing = s.ticket.pacing ∧
    (queueHead m s).sched.roster = s.sched.roster ∧ (queueHead m s).sched.cursor = s.sched.cursor ∧
    (queueHead m s).door = s.door ∧ (queueHead m s).press = s.press ∧
    (queueHead m s).car.position = s.car.position ∧ (queueHead m s).car.state = s.car.state ∧
    (queueHead m s).car.action = s.car.action ∧ (queueHead m s).car.served = s.car.served ∧
    (queueHead m s).car.doorHeld = s.car.doorHeld ∧ (queueHead m s).car.stallHeld = s.car.stallHeld ∧
    (queueHead m s).car.faultDeclined = s.car.faultDeclined ∧
    (queueHead m s).car.markerLimit = s.car.markerLimit ∧ (queueHead m s).car.actionLimit = s.car.actionLimit ∧
    (queueHead m s).car.inProgress = s.car.inProgress ∧ (queueHead m s).car.direction = s.car.direction ∧
    (queueHead m s).car.quench = s.car.quench ∧ (queueHead m s).car.hotTravel = s.car.hotTravel ∧
    (queueHead m s).car.quenchTimer = s.car.quenchTimer ∧ (queueHead m s).car.drainTimer = s.car.drainTimer ∧
    (queueHead m s).car.marker = s.car.marker ∧ (queueHead m s).car.home = s.car.home ∧
    (queueHead m s).store = s.store ∧ (queueHead m s).panel.mask = s.panel.mask ∧
    (queueHead m s).panel.stopn = s.panel.stopn ∧ (queueHead m s).panel.reply = s.panel.reply ∧
    (queueHead m s).panel.restartPending = s.panel.restartPending ∧ (queueHead m s).line.cutOff = s.line.cutOff ∧
    (queueHead m s).line.listener = s.line.listener ∧ (queueHead m s).car.actionServes = s.car.actionServes ∧
    (queueHead m s).panel.transaction = s.panel.transaction := by
  unfold queueHead; (repeat' split) <;> simp

/-- Where an entry joins at the head (R123). -/
theorem insertHead_eq (m : Move) (inProgress : Bool) (q : List Move) :
    insertHead m inProgress q = if inProgress then q.take 1 ++ m :: q.drop 1 else m :: q := by
  cases q <;> cases inProgress <;> simp [insertHead]

/-- The move queue after an entry has joined at the head, the tail entry of a full one gone (R123). -/
theorem queueHead_queue (m : Move) (s : State) :
    (queueHead m s).car.queue =
      insertHead m s.car.inProgress (if s.car.queue.length < 4 then s.car.queue else s.car.queue.dropLast) := by
  unfold queueHead Config.moveQueueMax
  split
  · rfl
  · cases s.car.queue.getLast? <;> simp

@[simp] theorem queueSpot_frame (target : Nat) (t : Ticket) (s : State) :
    (queueSpot target t s).pending = s.pending ∧ (queueSpot target t s).pins = s.pins ∧
    (queueSpot target t s).resetRecord = s.resetRecord ∧ (queueSpot target t s).cfg = s.cfg ∧
    (queueSpot target t s).fresh = s.fresh ∧ (queueSpot target t s).line = s.line ∧
    (queueSpot target t s).peer = s.peer ∧ (queueSpot target t s).ticket = s.ticket ∧
    (queueSpot target t s).sched = s.sched ∧ (queueSpot target t s).door = s.door ∧
    (queueSpot target t s).press = s.press ∧ (queueSpot target t s).car.position = s.car.position ∧
    (queueSpot target t s).car.state = s.car.state ∧ (queueSpot target t s).car.action = s.car.action ∧
    (queueSpot target t s).car.served = s.car.served ∧ (queueSpot target t s).car.doorHeld = s.car.doorHeld ∧
    (queueSpot target t s).car.stallHeld = s.car.stallHeld ∧
    (queueSpot target t s).car.faultDeclined = s.car.faultDeclined ∧
    (queueSpot target t s).car.markerLimit = s.car.markerLimit ∧
    (queueSpot target t s).car.actionLimit = s.car.actionLimit ∧
    (queueSpot target t s).car.inProgress = s.car.inProgress ∧
    (queueSpot target t s).car.direction = s.car.direction ∧ (queueSpot target t s).car.quench = s.car.quench ∧
    (queueSpot target t s).car.hotTravel = s.car.hotTravel ∧
    (queueSpot target t s).car.quenchTimer = s.car.quenchTimer ∧
    (queueSpot target t s).car.drainTimer = s.car.drainTimer ∧ (queueSpot target t s).car.marker = s.car.marker ∧
    (queueSpot target t s).car.home = s.car.home ∧ (queueSpot target t s).store = s.store ∧
    (queueSpot target t s).panel = s.panel ∧ (queueSpot target t s).car.actionServes = s.car.actionServes := by
  simp [queueSpot]

@[simp] theorem becomeIdle_frame (s : State) :
    (becomeIdle s).pending = s.pending ∧ (becomeIdle s).pins = s.pins ∧
    (becomeIdle s).resetRecord = s.resetRecord ∧ (becomeIdle s).cfg = s.cfg ∧ (becomeIdle s).fresh = s.fresh ∧
    (becomeIdle s).line = s.line ∧ (becomeIdle s).peer = s.peer ∧ (becomeIdle s).ticket = s.ticket ∧
    (becomeIdle s).sched = s.sched ∧ (becomeIdle s).door = s.door ∧ (becomeIdle s).press = s.press ∧
    (becomeIdle s).store = s.store ∧ (becomeIdle s).panel = s.panel := by
  simp [becomeIdle]

@[simp] theorem enterCarFault_frame (s : State) :
    (enterCarFault s).pending = s.pending ∧ (enterCarFault s).pins = s.pins ∧
    (enterCarFault s).resetRecord = s.resetRecord ∧ (enterCarFault s).cfg = s.cfg ∧
    (enterCarFault s).fresh = s.fresh ∧ (enterCarFault s).line.state = s.line.state ∧
    (enterCarFault s).line.ownReturn = s.line.ownReturn ∧ (enterCarFault s).line.score = s.line.score ∧
    (enterCarFault s).line.withdrawTimer = s.line.withdrawTimer ∧
    (enterCarFault s).line.counters.rxGood = s.line.counters.rxGood ∧
    (enterCarFault s).line.counters.rxBad = s.line.counters.rxBad ∧
    (enterCarFault s).line.counters.txDone = s.line.counters.txDone ∧
    (enterCarFault s).line.counters.txRetry = s.line.counters.txRetry ∧
    (enterCarFault s).line.counters.lapses = s.line.counters.lapses ∧ (enterCarFault s).peer = s.peer ∧
    (enterCarFault s).ticket.record = s.ticket.record ∧ (enterCarFault s).ticket.lastDone = s.ticket.lastDone ∧
    (enterCarFault s).ticket.stopFlag = s.ticket.stopFlag ∧ (enterCarFault s).ticket.pacing = s.ticket.pacing ∧
    (enterCarFault s).sched.roster = s.sched.roster ∧ (enterCarFault s).sched.cursor = s.sched.cursor ∧
    (enterCarFault s).door = s.door ∧ (enterCarFault s).press = s.press ∧
    (enterCarFault s).car.position = s.car.position ∧ (enterCarFault s).car.served = s.car.served ∧
    (enterCarFault s).car.doorHeld = s.car.doorHeld ∧ (enterCarFault s).car.stallHeld = s.car.stallHeld ∧
    (enterCarFault s).car.queue = s.car.queue ∧ (enterCarFault s).car.direction = s.car.direction ∧
    (enterCarFault s).car.quench = s.car.quench ∧ (enterCarFault s).car.hotTravel = s.car.hotTravel ∧
    (enterCarFault s).car.quenchTimer = s.car.quenchTimer ∧ (enterCarFault s).car.drainTimer = s.car.drainTimer ∧
    (enterCarFault s).car.marker = s.car.marker ∧ (enterCarFault s).car.home = s.car.home ∧
    (enterCarFault s).store = s.store ∧ (enterCarFault s).panel.mask = s.panel.mask ∧
    (enterCarFault s).panel.stopn = s.panel.stopn ∧ (enterCarFault s).panel.reply = s.panel.reply ∧
    (enterCarFault s).panel.restartPending = s.panel.restartPending ∧
    (enterCarFault s).line.cutOff = s.line.cutOff ∧ (enterCarFault s).line.listener = s.line.listener ∧
    (enterCarFault s).car.actionServes = s.car.actionServes ∧ (enterCarFault s).panel.transaction = s.panel.transaction := by
  simp only [enterCarFault]; (repeat' split) <;> simp

@[simp] theorem dropHeadMove_frame (s : State) :
    (dropHeadMove s).pending = s.pending ∧ (dropHeadMove s).pins = s.pins ∧
    (dropHeadMove s).resetRecord = s.resetRecord ∧ (dropHeadMove s).cfg = s.cfg ∧
    (dropHeadMove s).fresh = s.fresh ∧ (dropHeadMove s).line = s.line ∧ (dropHeadMove s).peer = s.peer ∧
    (dropHeadMove s).ticket = s.ticket ∧ (dropHeadMove s).sched = s.sched ∧ (dropHeadMove s).door = s.door ∧
    (dropHeadMove s).press = s.press ∧ (dropHeadMove s).car.position = s.car.position ∧
    (dropHeadMove s).car.state = s.car.state ∧ (dropHeadMove s).car.action = s.car.action ∧
    (dropHeadMove s).car.served = s.car.served ∧ (dropHeadMove s).car.doorHeld = s.car.doorHeld ∧
    (dropHeadMove s).car.stallHeld = s.car.stallHeld ∧ (dropHeadMove s).car.faultDeclined = s.car.faultDeclined ∧
    (dropHeadMove s).car.actionLimit = s.car.actionLimit ∧ (dropHeadMove s).car.direction = s.car.direction ∧
    (dropHeadMove s).car.quench = s.car.quench ∧ (dropHeadMove s).car.hotTravel = s.car.hotTravel ∧
    (dropHeadMove s).car.quenchTimer = s.car.quenchTimer ∧ (dropHeadMove s).car.drainTimer = s.car.drainTimer ∧
    (dropHeadMove s).car.marker = s.car.marker ∧ (dropHeadMove s).car.home = s.car.home ∧
    (dropHeadMove s).store = s.store ∧ (dropHeadMove s).panel = s.panel ∧
    (dropHeadMove s).car.actionServes = s.car.actionServes := by
  simp [dropHeadMove]

@[simp] theorem arriveSpot_frame (m : Move) (s : State) :
    (arriveSpot m s).pending = s.pending ∧ (arriveSpot m s).pins = s.pins ∧
    (arriveSpot m s).resetRecord = s.resetRecord ∧ (arriveSpot m s).cfg = s.cfg ∧
    (arriveSpot m s).fresh = s.fresh ∧ (arriveSpot m s).line.state = s.line.state ∧
    (arriveSpot m s).line.ownReturn = s.line.ownReturn ∧ (arriveSpot m s).line.score = s.line.score ∧
    (arriveSpot m s).line.withdrawTimer = s.line.withdrawTimer ∧
    (arriveSpot m s).line.counters.rxGood = s.line.counters.rxGood ∧
    (arriveSpot m s).line.counters.rxBad = s.line.counters.rxBad ∧
    (arriveSpot m s).line.counters.txDone = s.line.counters.txDone ∧
    (arriveSpot m s).line.counters.txRetry = s.line.counters.txRetry ∧
    (arriveSpot m s).line.counters.lapses = s.line.counters.lapses ∧ (arriveSpot m s).peer = s.peer ∧
    (arriveSpot m s).ticket.record = s.ticket.record ∧ (arriveSpot m s).ticket.lastDone = s.ticket.lastDone ∧
    (arriveSpot m s).ticket.stopFlag = s.ticket.stopFlag ∧ (arriveSpot m s).ticket.pacing = s.ticket.pacing ∧
    (arriveSpot m s).sched.roster = s.sched.roster ∧ (arriveSpot m s).sched.cursor = s.sched.cursor ∧
    (arriveSpot m s).door = s.door ∧ (arriveSpot m s).press = s.press ∧ (arriveSpot m s).store = s.store ∧
    (arriveSpot m s).panel.mask = s.panel.mask ∧ (arriveSpot m s).panel.stopn = s.panel.stopn ∧
    (arriveSpot m s).panel.reply = s.panel.reply ∧
    (arriveSpot m s).panel.restartPending = s.panel.restartPending ∧
    (arriveSpot m s).line.cutOff = s.line.cutOff ∧ (arriveSpot m s).line.listener = s.line.listener ∧
    (arriveSpot m s).panel.transaction = s.panel.transaction := by
  unfold arriveSpot; (repeat' split) <;> simp

@[simp] theorem arriveTower_frame (s : State) :
    (arriveTower s).pending = s.pending ∧ (arriveTower s).pins = s.pins ∧
    (arriveTower s).resetRecord = s.resetRecord ∧ (arriveTower s).cfg = s.cfg ∧ (arriveTower s).fresh = s.fresh ∧
    (arriveTower s).line = s.line ∧ (arriveTower s).peer = s.peer ∧ (arriveTower s).ticket = s.ticket ∧
    (arriveTower s).sched = s.sched ∧ (arriveTower s).door = s.door ∧ (arriveTower s).press = s.press ∧
    (arriveTower s).store.array = s.store.array ∧ (arriveTower s).store.queue = s.store.queue ∧
    (arriveTower s).store.write = s.store.write ∧ (arriveTower s).panel = s.panel := by
  simp only [arriveTower]; (repeat' split) <;> simp

@[simp] theorem arriveWharf_frame (s : State) :
    (arriveWharf s).pending = s.pending ∧ (arriveWharf s).pins = s.pins ∧
    (arriveWharf s).resetRecord = s.resetRecord ∧ (arriveWharf s).cfg = s.cfg ∧ (arriveWharf s).fresh = s.fresh ∧
    (arriveWharf s).line = s.line ∧ (arriveWharf s).peer = s.peer ∧ (arriveWharf s).ticket = s.ticket ∧
    (arriveWharf s).sched = s.sched ∧ (arriveWharf s).door = s.door ∧ (arriveWharf s).press = s.press ∧
    (arriveWharf s).store.array = s.store.array ∧ (arriveWharf s).store.queue = s.store.queue ∧
    (arriveWharf s).store.write = s.store.write ∧ (arriveWharf s).panel = s.panel := by
  unfold arriveWharf; split <;> simp

@[simp] theorem arrive_frame (s : State) :
    (arrive s).pending = s.pending ∧ (arrive s).pins = s.pins ∧ (arrive s).resetRecord = s.resetRecord ∧
    (arrive s).cfg = s.cfg ∧ (arrive s).fresh = s.fresh ∧ (arrive s).line.state = s.line.state ∧
    (arrive s).line.ownReturn = s.line.ownReturn ∧ (arrive s).line.score = s.line.score ∧
    (arrive s).line.withdrawTimer = s.line.withdrawTimer ∧
    (arrive s).line.counters.rxGood = s.line.counters.rxGood ∧
    (arrive s).line.counters.rxBad = s.line.counters.rxBad ∧
    (arrive s).line.counters.txDone = s.line.counters.txDone ∧
    (arrive s).line.counters.txRetry = s.line.counters.txRetry ∧
    (arrive s).line.counters.lapses = s.line.counters.lapses ∧ (arrive s).peer = s.peer ∧
    (arrive s).ticket.record = s.ticket.record ∧ (arrive s).ticket.lastDone = s.ticket.lastDone ∧
    (arrive s).ticket.stopFlag = s.ticket.stopFlag ∧ (arrive s).ticket.pacing = s.ticket.pacing ∧
    (arrive s).sched.roster = s.sched.roster ∧ (arrive s).sched.cursor = s.sched.cursor ∧
    (arrive s).door = s.door ∧ (arrive s).press = s.press ∧ (arrive s).store.array = s.store.array ∧
    (arrive s).store.queue = s.store.queue ∧ (arrive s).store.write = s.store.write ∧
    (arrive s).panel.mask = s.panel.mask ∧ (arrive s).panel.stopn = s.panel.stopn ∧
    (arrive s).panel.reply = s.panel.reply ∧ (arrive s).panel.restartPending = s.panel.restartPending ∧
    (arrive s).line.cutOff = s.line.cutOff ∧ (arrive s).line.listener = s.line.listener ∧
    (arrive s).panel.transaction = s.panel.transaction := by
  unfold arrive; (repeat' split) <;> simp

@[simp] theorem startMove_frame (s : State) :
    (startMove s).pending = s.pending ∧ (startMove s).pins = s.pins ∧ (startMove s).resetRecord = s.resetRecord ∧
    (startMove s).cfg = s.cfg ∧ (startMove s).fresh = s.fresh ∧ (startMove s).line.state = s.line.state ∧
    (startMove s).line.ownReturn = s.line.ownReturn ∧ (startMove s).line.score = s.line.score ∧
    (startMove s).line.withdrawTimer = s.line.withdrawTimer ∧
    (startMove s).line.counters.rxGood = s.line.counters.rxGood ∧
    (startMove s).line.counters.rxBad = s.line.counters.rxBad ∧
    (startMove s).line.counters.txDone = s.line.counters.txDone ∧
    (startMove s).line.counters.txRetry = s.line.counters.txRetry ∧
    (startMove s).line.counters.lapses = s.line.counters.lapses ∧ (startMove s).peer = s.peer ∧
    (startMove s).ticket.record = s.ticket.record ∧ (startMove s).ticket.lastDone = s.ticket.lastDone ∧
    (startMove s).ticket.stopFlag = s.ticket.stopFlag ∧ (startMove s).ticket.pacing = s.ticket.pacing ∧
    (startMove s).sched.roster = s.sched.roster ∧ (startMove s).sched.cursor = s.sched.cursor ∧
    (startMove s).door = s.door ∧ (startMove s).press = s.press ∧ (startMove s).store.array = s.store.array ∧
    (startMove s).store.queue = s.store.queue ∧ (startMove s).store.write = s.store.write ∧
    (startMove s).panel.mask = s.panel.mask ∧ (startMove s).panel.stopn = s.panel.stopn ∧
    (startMove s).panel.reply = s.panel.reply ∧ (startMove s).panel.restartPending = s.panel.restartPending ∧
    (startMove s).line.cutOff = s.line.cutOff ∧ (startMove s).line.listener = s.line.listener ∧
    (startMove s).panel.transaction = s.panel.transaction := by
  unfold startMove; split <;> simp

@[simp] theorem startAction_frame (a : Action) (s : State) :
    (startAction a s).pending = s.pending ∧ (startAction a s).pins = s.pins ∧
    (startAction a s).resetRecord = s.resetRecord ∧ (startAction a s).cfg = s.cfg ∧
    (startAction a s).fresh = s.fresh ∧ (startAction a s).line = s.line ∧ (startAction a s).peer = s.peer ∧
    (startAction a s).ticket = s.ticket ∧ (startAction a s).sched = s.sched ∧ (startAction a s).door = s.door ∧
    (startAction a s).press = s.press ∧ (startAction a s).car.position = s.car.position ∧
    (startAction a s).car.served = s.car.served ∧ (startAction a s).car.doorHeld = s.car.doorHeld ∧
    (startAction a s).car.stallHeld = s.car.stallHeld ∧
    (startAction a s).car.faultDeclined = s.car.faultDeclined ∧
    (startAction a s).car.markerLimit = s.car.markerLimit ∧ (startAction a s).car.queue = s.car.queue ∧
    (startAction a s).car.inProgress = s.car.inProgress ∧ (startAction a s).car.direction = s.car.direction ∧
    (startAction a s).car.quench = s.car.quench ∧ (startAction a s).car.hotTravel = s.car.hotTravel ∧
    (startAction a s).car.quenchTimer = s.car.quenchTimer ∧ (startAction a s).car.drainTimer = s.car.drainTimer ∧
    (startAction a s).car.marker = s.car.marker ∧ (startAction a s).car.home = s.car.home ∧
    (startAction a s).store = s.store ∧ (startAction a s).panel = s.panel := by
  simp [startAction]

@[simp] theorem judgeCar_frame (ramJudged : Bool) (n : Nat) (s : State) :
    (judgeCar ramJudged n s).pending = s.pending ∧ (judgeCar ramJudged n s).pins = s.pins ∧
    (judgeCar ramJudged n s).resetRecord = s.resetRecord ∧ (judgeCar ramJudged n s).cfg = s.cfg ∧
    (judgeCar ramJudged n s).fresh = s.fresh ∧ (judgeCar ramJudged n s).line.state = s.line.state ∧
    (judgeCar ramJudged n s).line.ownReturn = s.line.ownReturn ∧
    (judgeCar ramJudged n s).line.score = s.line.score ∧
    (judgeCar ramJudged n s).line.withdrawTimer = s.line.withdrawTimer ∧
    (judgeCar ramJudged n s).line.counters.rxGood = s.line.counters.rxGood ∧
    (judgeCar ramJudged n s).line.counters.rxBad = s.line.counters.rxBad ∧
    (judgeCar ramJudged n s).line.counters.txDone = s.line.counters.txDone ∧
    (judgeCar ramJudged n s).line.counters.txRetry = s.line.counters.txRetry ∧
    (judgeCar ramJudged n s).line.counters.lapses = s.line.counters.lapses ∧
    (judgeCar ramJudged n s).peer = s.peer ∧ (judgeCar ramJudged n s).ticket.record = s.ticket.record ∧
    (judgeCar ramJudged n s).ticket.lastDone = s.ticket.lastDone ∧
    (judgeCar ramJudged n s).ticket.stopFlag = s.ticket.stopFlag ∧
    (judgeCar ramJudged n s).ticket.pacing = s.ticket.pacing ∧
    (judgeCar ramJudged n s).sched.roster = s.sched.roster ∧
    (judgeCar ramJudged n s).sched.cursor = s.sched.cursor ∧ (judgeCar ramJudged n s).door = s.door ∧
    (judgeCar ramJudged n s).press = s.press ∧ (judgeCar ramJudged n s).store.array = s.store.array ∧
    (judgeCar ramJudged n s).store.queue = s.store.queue ∧ (judgeCar ramJudged n s).store.write = s.store.write ∧
    (judgeCar ramJudged n s).panel.mask = s.panel.mask ∧ (judgeCar ramJudged n s).panel.stopn = s.panel.stopn ∧
    (judgeCar ramJudged n s).panel.reply = s.panel.reply ∧
    (judgeCar ramJudged n s).panel.restartPending = s.panel.restartPending ∧
    (judgeCar ramJudged n s).line.cutOff = s.line.cutOff ∧
    (judgeCar ramJudged n s).line.listener = s.line.listener ∧
    (judgeCar ramJudged n s).panel.transaction = s.panel.transaction := by
  induction n generalizing s with
  | zero => simp [judgeCar]
  | succ n ih => unfold judgeCar; (repeat' split) <;> simp [ih]

@[simp] theorem beginHoming_frame (s : State) :
    (beginHoming s).pending = s.pending ∧ (beginHoming s).pins = s.pins ∧
    (beginHoming s).resetRecord = s.resetRecord ∧ (beginHoming s).cfg = s.cfg ∧ (beginHoming s).fresh = s.fresh ∧
    (beginHoming s).line.state = s.line.state ∧ (beginHoming s).line.ownReturn = s.line.ownReturn ∧
    (beginHoming s).line.score = s.line.score ∧ (beginHoming s).line.withdrawTimer = s.line.withdrawTimer ∧
    (beginHoming s).line.counters.rxGood = s.line.counters.rxGood ∧
    (beginHoming s).line.counters.rxBad = s.line.counters.rxBad ∧
    (beginHoming s).line.counters.txDone = s.line.counters.txDone ∧
    (beginHoming s).line.counters.txRetry = s.line.counters.txRetry ∧
    (beginHoming s).line.counters.lapses = s.line.counters.lapses ∧ (beginHoming s).peer = s.peer ∧
    (beginHoming s).ticket.record = s.ticket.record ∧ (beginHoming s).ticket.lastDone = s.ticket.lastDone ∧
    (beginHoming s).ticket.stopFlag = s.ticket.stopFlag ∧ (beginHoming s).ticket.pacing = s.ticket.pacing ∧
    (beginHoming s).sched.roster = s.sched.roster ∧ (beginHoming s).sched.cursor = s.sched.cursor ∧
    (beginHoming s).door = s.door ∧ (beginHoming s).press = s.press ∧
    (beginHoming s).car.position = s.car.position ∧ (beginHoming s).car.action = s.car.action ∧
    (beginHoming s).car.served = s.car.served ∧ (beginHoming s).car.doorHeld = s.car.doorHeld ∧
    (beginHoming s).car.stallHeld = s.car.stallHeld ∧ (beginHoming s).car.faultDeclined = s.car.faultDeclined ∧
    (beginHoming s).car.markerLimit = s.car.markerLimit ∧ (beginHoming s).car.actionLimit = s.car.actionLimit ∧
    (beginHoming s).car.inProgress = s.car.inProgress ∧ (beginHoming s).car.direction = s.car.direction ∧
    (beginHoming s).car.quench = s.car.quench ∧ (beginHoming s).car.hotTravel = s.car.hotTravel ∧
    (beginHoming s).car.quenchTimer = s.car.quenchTimer ∧ (beginHoming s).car.drainTimer = s.car.drainTimer ∧
    (beginHoming s).car.marker = s.car.marker ∧ (beginHoming s).car.home = s.car.home ∧
    (beginHoming s).store = s.store ∧ (beginHoming s).panel.mask = s.panel.mask ∧
    (beginHoming s).panel.stopn = s.panel.stopn ∧ (beginHoming s).panel.reply = s.panel.reply ∧
    (beginHoming s).panel.restartPending = s.panel.restartPending ∧ (beginHoming s).line.cutOff = s.line.cutOff ∧
    (beginHoming s).line.listener = s.line.listener ∧ (beginHoming s).car.actionServes = s.car.actionServes ∧
    (beginHoming s).panel.transaction = s.panel.transaction := by
  unfold beginHoming; split <;> simp

@[simp] theorem restartMarkerLimit_frame (s : State) :
    (restartMarkerLimit s).pending = s.pending ∧ (restartMarkerLimit s).pins = s.pins ∧
    (restartMarkerLimit s).resetRecord = s.resetRecord ∧ (restartMarkerLimit s).cfg = s.cfg ∧
    (restartMarkerLimit s).fresh = s.fresh ∧ (restartMarkerLimit s).line = s.line ∧
    (restartMarkerLimit s).peer = s.peer ∧ (restartMarkerLimit s).ticket = s.ticket ∧
    (restartMarkerLimit s).sched = s.sched ∧ (restartMarkerLimit s).door = s.door ∧
    (restartMarkerLimit s).press = s.press ∧ (restartMarkerLimit s).car.position = s.car.position ∧
    (restartMarkerLimit s).car.state = s.car.state ∧ (restartMarkerLimit s).car.action = s.car.action ∧
    (restartMarkerLimit s).car.served = s.car.served ∧ (restartMarkerLimit s).car.doorHeld = s.car.doorHeld ∧
    (restartMarkerLimit s).car.stallHeld = s.car.stallHeld ∧
    (restartMarkerLimit s).car.faultDeclined = s.car.faultDeclined ∧
    (restartMarkerLimit s).car.actionLimit = s.car.actionLimit ∧ (restartMarkerLimit s).car.queue = s.car.queue ∧
    (restartMarkerLimit s).car.inProgress = s.car.inProgress ∧
    (restartMarkerLimit s).car.direction = s.car.direction ∧ (restartMarkerLimit s).car.quench = s.car.quench ∧
    (restartMarkerLimit s).car.hotTravel = s.car.hotTravel ∧
    (restartMarkerLimit s).car.quenchTimer = s.car.quenchTimer ∧
    (restartMarkerLimit s).car.drainTimer = s.car.drainTimer ∧ (restartMarkerLimit s).car.marker = s.car.marker ∧
    (restartMarkerLimit s).car.home = s.car.home ∧ (restartMarkerLimit s).store = s.store ∧
    (restartMarkerLimit s).panel = s.panel ∧ (restartMarkerLimit s).car.actionServes = s.car.actionServes := by
  simp [restartMarkerLimit]

@[simp] theorem markerEdge_frame (s : State) :
    (markerEdge s).pending = s.pending ∧ (markerEdge s).pins = s.pins ∧
    (markerEdge s).resetRecord = s.resetRecord ∧ (markerEdge s).cfg = s.cfg ∧ (markerEdge s).fresh = s.fresh ∧
    (markerEdge s).line.state = s.line.state ∧ (markerEdge s).line.ownReturn = s.line.ownReturn ∧
    (markerEdge s).line.score = s.line.score ∧ (markerEdge s).line.withdrawTimer = s.line.withdrawTimer ∧
    (markerEdge s).line.counters.rxGood = s.line.counters.rxGood ∧
    (markerEdge s).line.counters.rxBad = s.line.counters.rxBad ∧
    (markerEdge s).line.counters.txDone = s.line.counters.txDone ∧
    (markerEdge s).line.counters.txRetry = s.line.counters.txRetry ∧
    (markerEdge s).line.counters.lapses = s.line.counters.lapses ∧ (markerEdge s).peer = s.peer ∧
    (markerEdge s).ticket.record = s.ticket.record ∧ (markerEdge s).ticket.lastDone = s.ticket.lastDone ∧
    (markerEdge s).ticket.stopFlag = s.ticket.stopFlag ∧ (markerEdge s).ticket.pacing = s.ticket.pacing ∧
    (markerEdge s).sched.roster = s.sched.roster ∧ (markerEdge s).sched.cursor = s.sched.cursor ∧
    (markerEdge s).door = s.door ∧ (markerEdge s).press = s.press ∧ (markerEdge s).store.array = s.store.array ∧
    (markerEdge s).store.queue = s.store.queue ∧ (markerEdge s).store.write = s.store.write ∧
    (markerEdge s).panel.mask = s.panel.mask ∧ (markerEdge s).panel.stopn = s.panel.stopn ∧
    (markerEdge s).panel.reply = s.panel.reply ∧ (markerEdge s).panel.restartPending = s.panel.restartPending ∧
    (markerEdge s).line.cutOff = s.line.cutOff ∧ (markerEdge s).line.listener = s.line.listener ∧
    (markerEdge s).panel.transaction = s.panel.transaction := by
  simp only [markerEdge]; (repeat' split) <;> simp

@[simp] theorem homeAsserted_frame (s : State) :
    (homeAsserted s).pending = s.pending ∧ (homeAsserted s).pins = s.pins ∧
    (homeAsserted s).resetRecord = s.resetRecord ∧ (homeAsserted s).cfg = s.cfg ∧
    (homeAsserted s).fresh = s.fresh ∧ (homeAsserted s).line.state = s.line.state ∧
    (homeAsserted s).line.ownReturn = s.line.ownReturn ∧ (homeAsserted s).line.score = s.line.score ∧
    (homeAsserted s).line.withdrawTimer = s.line.withdrawTimer ∧
    (homeAsserted s).line.counters.rxGood = s.line.counters.rxGood ∧
    (homeAsserted s).line.counters.rxBad = s.line.counters.rxBad ∧
    (homeAsserted s).line.counters.txDone = s.line.counters.txDone ∧
    (homeAsserted s).line.counters.txRetry = s.line.counters.txRetry ∧
    (homeAsserted s).line.counters.lapses = s.line.counters.lapses ∧ (homeAsserted s).peer = s.peer ∧
    (homeAsserted s).ticket.record = s.ticket.record ∧ (homeAsserted s).ticket.lastDone = s.ticket.lastDone ∧
    (homeAsserted s).ticket.stopFlag = s.ticket.stopFlag ∧ (homeAsserted s).ticket.pacing = s.ticket.pacing ∧
    (homeAsserted s).sched.roster = s.sched.roster ∧ (homeAsserted s).sched.cursor = s.sched.cursor ∧
    (homeAsserted s).door = s.door ∧ (homeAsserted s).press = s.press ∧
    (homeAsserted s).store.array = s.store.array ∧ (homeAsserted s).store.queue = s.store.queue ∧
    (homeAsserted s).store.write = s.store.write ∧ (homeAsserted s).panel.mask = s.panel.mask ∧
    (homeAsserted s).panel.stopn = s.panel.stopn ∧ (homeAsserted s).panel.reply = s.panel.reply ∧
    (homeAsserted s).panel.restartPending = s.panel.restartPending ∧
    (homeAsserted s).line.cutOff = s.line.cutOff ∧ (homeAsserted s).line.listener = s.line.listener ∧
    (homeAsserted s).panel.transaction = s.panel.transaction := by
  unfold homeAsserted; split <;> simp

@[simp] theorem answerClaim_frame (t : Ticket) (oven : Nat) (s : State) :
    (answerClaim t oven s).pending = s.pending ∧ (answerClaim t oven s).pins = s.pins ∧
    (answerClaim t oven s).resetRecord = s.resetRecord ∧ (answerClaim t oven s).cfg = s.cfg ∧
    (answerClaim t oven s).fresh = s.fresh ∧ (answerClaim t oven s).line.state = s.line.state ∧
    (answerClaim t oven s).line.ownReturn = s.line.ownReturn ∧ (answerClaim t oven s).line.score = s.line.score ∧
    (answerClaim t oven s).line.withdrawTimer = s.line.withdrawTimer ∧
    (answerClaim t oven s).line.counters.rxGood = s.line.counters.rxGood ∧
    (answerClaim t oven s).line.counters.rxBad = s.line.counters.rxBad ∧
    (answerClaim t oven s).line.counters.txDone = s.line.counters.txDone ∧
    (answerClaim t oven s).line.counters.txRetry = s.line.counters.txRetry ∧
    (answerClaim t oven s).line.counters.lapses = s.line.counters.lapses ∧ (answerClaim t oven s).peer = s.peer ∧
    (answerClaim t oven s).ticket.record = s.ticket.record ∧
    (answerClaim t oven s).ticket.lastDone = s.ticket.lastDone ∧
    (answerClaim t oven s).ticket.stopFlag = s.ticket.stopFlag ∧
    (answerClaim t oven s).ticket.pacing = s.ticket.pacing ∧
    (answerClaim t oven s).sched.roster = s.sched.roster ∧ (answerClaim t oven s).sched.cursor = s.sched.cursor ∧
    (answerClaim t oven s).door = s.door ∧ (answerClaim t oven s).press = s.press ∧
    (answerClaim t oven s).car.position = s.car.position ∧ (answerClaim t oven s).car.state = s.car.state ∧
    (answerClaim t oven s).car.action = s.car.action ∧ (answerClaim t oven s).car.doorHeld = s.car.doorHeld ∧
    (answerClaim t oven s).car.stallHeld = s.car.stallHeld ∧
    (answerClaim t oven s).car.markerLimit = s.car.markerLimit ∧
    (answerClaim t oven s).car.actionLimit = s.car.actionLimit ∧
    (answerClaim t oven s).car.inProgress = s.car.inProgress ∧
    (answerClaim t oven s).car.direction = s.car.direction ∧ (answerClaim t oven s).car.quench = s.car.quench ∧
    (answerClaim t oven s).car.hotTravel = s.car.hotTravel ∧
    (answerClaim t oven s).car.quenchTimer = s.car.quenchTimer ∧
    (answerClaim t oven s).car.drainTimer = s.car.drainTimer ∧ (answerClaim t oven s).car.marker = s.car.marker ∧
    (answerClaim t oven s).car.home = s.car.home ∧ (answerClaim t oven s).store = s.store ∧
    (answerClaim t oven s).panel.mask = s.panel.mask ∧ (answerClaim t oven s).panel.stopn = s.panel.stopn ∧
    (answerClaim t oven s).panel.reply = s.panel.reply ∧
    (answerClaim t oven s).panel.restartPending = s.panel.restartPending ∧
    (answerClaim t oven s).line.cutOff = s.line.cutOff ∧ (answerClaim t oven s).line.listener = s.line.listener ∧
    (answerClaim t oven s).car.actionServes = s.car.actionServes ∧
    (answerClaim t oven s).panel.transaction = s.panel.transaction := by
  unfold answerClaim; (repeat' split) <;> simp

@[simp] theorem stopAction_frame (s : State) :
    (stopAction s).pending = s.pending ∧ (stopAction s).pins = s.pins ∧
    (stopAction s).resetRecord = s.resetRecord ∧ (stopAction s).cfg = s.cfg ∧ (stopAction s).fresh = s.fresh ∧
    (stopAction s).line = s.line ∧ (stopAction s).peer = s.peer ∧ (stopAction s).ticket = s.ticket ∧
    (stopAction s).sched = s.sched ∧ (stopAction s).door = s.door ∧ (stopAction s).press = s.press ∧
    (stopAction s).car.position = s.car.position ∧ (stopAction s).car.state = s.car.state ∧
    (stopAction s).car.served = s.car.served ∧ (stopAction s).car.doorHeld = s.car.doorHeld ∧
    (stopAction s).car.stallHeld = s.car.stallHeld ∧ (stopAction s).car.faultDeclined = s.car.faultDeclined ∧
    (stopAction s).car.markerLimit = s.car.markerLimit ∧ (stopAction s).car.queue = s.car.queue ∧
    (stopAction s).car.inProgress = s.car.inProgress ∧ (stopAction s).car.direction = s.car.direction ∧
    (stopAction s).car.quench = s.car.quench ∧ (stopAction s).car.hotTravel = s.car.hotTravel ∧
    (stopAction s).car.quenchTimer = s.car.quenchTimer ∧ (stopAction s).car.drainTimer = s.car.drainTimer ∧
    (stopAction s).car.marker = s.car.marker ∧ (stopAction s).car.home = s.car.home ∧
    (stopAction s).store = s.store ∧ (stopAction s).panel = s.panel ∧
    (stopAction s).car.actionServes = s.car.actionServes := by
  simp [stopAction]

@[simp] theorem ramFinished_frame (s : State) :
    (ramFinished s).pending = s.pending ∧ (ramFinished s).pins = s.pins ∧
    (ramFinished s).resetRecord = s.resetRecord ∧ (ramFinished s).cfg = s.cfg ∧ (ramFinished s).fresh = s.fresh ∧
    (ramFinished s).line.state = s.line.state ∧ (ramFinished s).line.ownReturn = s.line.ownReturn ∧
    (ramFinished s).line.score = s.line.score ∧ (ramFinished s).line.withdrawTimer = s.line.withdrawTimer ∧
    (ramFinished s).line.counters.rxGood = s.line.counters.rxGood ∧
    (ramFinished s).line.counters.rxBad = s.line.counters.rxBad ∧
    (ramFinished s).line.counters.txDone = s.line.counters.txDone ∧
    (ramFinished s).line.counters.txRetry = s.line.counters.txRetry ∧
    (ramFinished s).line.counters.lapses = s.line.counters.lapses ∧ (ramFinished s).peer = s.peer ∧
    (ramFinished s).ticket.record = s.ticket.record ∧ (ramFinished s).ticket.lastDone = s.ticket.lastDone ∧
    (ramFinished s).ticket.stopFlag = s.ticket.stopFlag ∧ (ramFinished s).ticket.pacing = s.ticket.pacing ∧
    (ramFinished s).sched.roster = s.sched.roster ∧ (ramFinished s).sched.cursor = s.sched.cursor ∧
    (ramFinished s).door = s.door ∧ (ramFinished s).press = s.press ∧
    (ramFinished s).car.position = s.car.position ∧ (ramFinished s).car.served = s.car.served ∧
    (ramFinished s).car.doorHeld = s.car.doorHeld ∧ (ramFinished s).car.faultDeclined = s.car.faultDeclined ∧
    (ramFinished s).car.markerLimit = s.car.markerLimit ∧ (ramFinished s).car.queue = s.car.queue ∧
    (ramFinished s).car.inProgress = s.car.inProgress ∧ (ramFinished s).car.direction = s.car.direction ∧
    (ramFinished s).car.quench = s.car.quench ∧ (ramFinished s).car.hotTravel = s.car.hotTravel ∧
    (ramFinished s).car.quenchTimer = s.car.quenchTimer ∧ (ramFinished s).car.drainTimer = s.car.drainTimer ∧
    (ramFinished s).car.marker = s.car.marker ∧ (ramFinished s).car.home = s.car.home ∧
    (ramFinished s).store = s.store ∧ (ramFinished s).panel.mask = s.panel.mask ∧
    (ramFinished s).panel.stopn = s.panel.stopn ∧ (ramFinished s).panel.reply = s.panel.reply ∧
    (ramFinished s).panel.restartPending = s.panel.restartPending ∧ (ramFinished s).line.cutOff = s.line.cutOff ∧
    (ramFinished s).line.listener = s.line.listener ∧ (ramFinished s).car.actionServes = s.car.actionServes ∧
    (ramFinished s).panel.transaction = s.panel.transaction := by
  simp [ramFinished]

@[simp] theorem actionDone_frame (s : State) :
    (actionDone s).pending = s.pending ∧ (actionDone s).pins = s.pins ∧
    (actionDone s).resetRecord = s.resetRecord ∧ (actionDone s).cfg = s.cfg ∧ (actionDone s).fresh = s.fresh ∧
    (actionDone s).line.state = s.line.state ∧ (actionDone s).line.ownReturn = s.line.ownReturn ∧
    (actionDone s).line.score = s.line.score ∧ (actionDone s).line.withdrawTimer = s.line.withdrawTimer ∧
    (actionDone s).line.counters.rxGood = s.line.counters.rxGood ∧
    (actionDone s).line.counters.rxBad = s.line.counters.rxBad ∧
    (actionDone s).line.counters.txDone = s.line.counters.txDone ∧
    (actionDone s).line.counters.txRetry = s.line.counters.txRetry ∧
    (actionDone s).line.counters.lapses = s.line.counters.lapses ∧ (actionDone s).peer = s.peer ∧
    (actionDone s).ticket.record = s.ticket.record ∧ (actionDone s).ticket.lastDone = s.ticket.lastDone ∧
    (actionDone s).ticket.stopFlag = s.ticket.stopFlag ∧ (actionDone s).ticket.pacing = s.ticket.pacing ∧
    (actionDone s).sched.roster = s.sched.roster ∧ (actionDone s).sched.cursor = s.sched.cursor ∧
    (actionDone s).door = s.door ∧ (actionDone s).press = s.press ∧ (actionDone s).store.array = s.store.array ∧
    (actionDone s).store.queue = s.store.queue ∧ (actionDone s).store.write = s.store.write ∧
    (actionDone s).panel.mask = s.panel.mask ∧ (actionDone s).panel.stopn = s.panel.stopn ∧
    (actionDone s).panel.reply = s.panel.reply ∧ (actionDone s).panel.restartPending = s.panel.restartPending ∧
    (actionDone s).line.cutOff = s.line.cutOff ∧ (actionDone s).line.listener = s.line.listener ∧
    (actionDone s).panel.transaction = s.panel.transaction := by
  unfold actionDone; split <;> simp

@[simp] theorem stallRam_frame (s : State) :
    (stallRam s).pending = s.pending ∧ (stallRam s).pins = s.pins ∧ (stallRam s).resetRecord = s.resetRecord ∧
    (stallRam s).cfg = s.cfg ∧ (stallRam s).fresh = s.fresh ∧ (stallRam s).line.state = s.line.state ∧
    (stallRam s).line.ownReturn = s.line.ownReturn ∧ (stallRam s).line.score = s.line.score ∧
    (stallRam s).line.withdrawTimer = s.line.withdrawTimer ∧
    (stallRam s).line.counters.rxGood = s.line.counters.rxGood ∧
    (stallRam s).line.counters.rxBad = s.line.counters.rxBad ∧
    (stallRam s).line.counters.txDone = s.line.counters.txDone ∧
    (stallRam s).line.counters.txRetry = s.line.counters.txRetry ∧
    (stallRam s).line.counters.lapses = s.line.counters.lapses ∧ (stallRam s).peer = s.peer ∧
    (stallRam s).ticket.record = s.ticket.record ∧ (stallRam s).ticket.lastDone = s.ticket.lastDone ∧
    (stallRam s).ticket.stopFlag = s.ticket.stopFlag ∧ (stallRam s).ticket.pacing = s.ticket.pacing ∧
    (stallRam s).sched.roster = s.sched.roster ∧ (stallRam s).sched.cursor = s.sched.cursor ∧
    (stallRam s).door = s.door ∧ (stallRam s).press = s.press ∧ (stallRam s).car.position = s.car.position ∧
    (stallRam s).car.state = s.car.state ∧ (stallRam s).car.action = s.car.action ∧
    (stallRam s).car.served = s.car.served ∧ (stallRam s).car.doorHeld = s.car.doorHeld ∧
    (stallRam s).car.faultDeclined = s.car.faultDeclined ∧ (stallRam s).car.markerLimit = s.car.markerLimit ∧
    (stallRam s).car.queue = s.car.queue ∧ (stallRam s).car.inProgress = s.car.inProgress ∧
    (stallRam s).car.direction = s.car.direction ∧ (stallRam s).car.quench = s.car.quench ∧
    (stallRam s).car.hotTravel = s.car.hotTravel ∧ (stallRam s).car.quenchTimer = s.car.quenchTimer ∧
    (stallRam s).car.drainTimer = s.car.drainTimer ∧ (stallRam s).car.marker = s.car.marker ∧
    (stallRam s).car.home = s.car.home ∧ (stallRam s).store = s.store ∧ (stallRam s).panel.mask = s.panel.mask ∧
    (stallRam s).panel.stopn = s.panel.stopn ∧ (stallRam s).panel.reply = s.panel.reply ∧
    (stallRam s).panel.restartPending = s.panel.restartPending ∧ (stallRam s).line.cutOff = s.line.cutOff ∧
    (stallRam s).line.listener = s.line.listener ∧ (stallRam s).car.actionServes = s.car.actionServes ∧
    (stallRam s).panel.transaction = s.panel.transaction := by
  unfold stallRam; split <;> simp

@[simp] theorem actionFailed_frame (s : State) :
    (actionFailed s).pending = s.pending ∧ (actionFailed s).pins = s.pins ∧
    (actionFailed s).resetRecord = s.resetRecord ∧ (actionFailed s).cfg = s.cfg ∧
    (actionFailed s).fresh = s.fresh ∧ (actionFailed s).line.state = s.line.state ∧
    (actionFailed s).line.ownReturn = s.line.ownReturn ∧ (actionFailed s).line.score = s.line.score ∧
    (actionFailed s).line.withdrawTimer = s.line.withdrawTimer ∧
    (actionFailed s).line.counters.rxGood = s.line.counters.rxGood ∧
    (actionFailed s).line.counters.rxBad = s.line.counters.rxBad ∧
    (actionFailed s).line.counters.txDone = s.line.counters.txDone ∧
    (actionFailed s).line.counters.txRetry = s.line.counters.txRetry ∧
    (actionFailed s).line.counters.lapses = s.line.counters.lapses ∧ (actionFailed s).peer = s.peer ∧
    (actionFailed s).ticket.record = s.ticket.record ∧ (actionFailed s).ticket.lastDone = s.ticket.lastDone ∧
    (actionFailed s).ticket.stopFlag = s.ticket.stopFlag ∧ (actionFailed s).ticket.pacing = s.ticket.pacing ∧
    (actionFailed s).sched.roster = s.sched.roster ∧ (actionFailed s).sched.cursor = s.sched.cursor ∧
    (actionFailed s).door = s.door ∧ (actionFailed s).press = s.press ∧
    (actionFailed s).car.position = s.car.position ∧ (actionFailed s).car.served = s.car.served ∧
    (actionFailed s).car.doorHeld = s.car.doorHeld ∧ (actionFailed s).car.queue = s.car.queue ∧
    (actionFailed s).car.direction = s.car.direction ∧ (actionFailed s).car.quench = s.car.quench ∧
    (actionFailed s).car.hotTravel = s.car.hotTravel ∧ (actionFailed s).car.quenchTimer = s.car.quenchTimer ∧
    (actionFailed s).car.drainTimer = s.car.drainTimer ∧ (actionFailed s).car.marker = s.car.marker ∧
    (actionFailed s).car.home = s.car.home ∧ (actionFailed s).store = s.store ∧
    (actionFailed s).panel.mask = s.panel.mask ∧ (actionFailed s).panel.stopn = s.panel.stopn ∧
    (actionFailed s).panel.reply = s.panel.reply ∧
    (actionFailed s).panel.restartPending = s.panel.restartPending ∧
    (actionFailed s).line.cutOff = s.line.cutOff ∧ (actionFailed s).line.listener = s.line.listener ∧
    (actionFailed s).car.actionServes = s.car.actionServes ∧ (actionFailed s).panel.transaction = s.panel.transaction := by
  unfold actionFailed; split <;> simp

@[simp] theorem releaseTicket_frame (t : Ticket) (s : State) :
    (releaseTicket t s).pending = s.pending ∧ (releaseTicket t s).pins = s.pins ∧
    (releaseTicket t s).resetRecord = s.resetRecord ∧ (releaseTicket t s).cfg = s.cfg ∧
    (releaseTicket t s).fresh = s.fresh ∧ (releaseTicket t s).line.state = s.line.state ∧
    (releaseTicket t s).line.attempt = s.line.attempt ∧ (releaseTicket t s).line.ownReturn = s.line.ownReturn ∧
    (releaseTicket t s).line.score = s.line.score ∧
    (releaseTicket t s).line.withdrawTimer = s.line.withdrawTimer ∧ (releaseTicket t s).line.q2 = s.line.q2 ∧
    (releaseTicket t s).line.q3 = s.line.q3 ∧ (releaseTicket t s).line.dropped = s.line.dropped ∧
    (releaseTicket t s).line.counters = s.line.counters ∧ (releaseTicket t s).peer = s.peer ∧
    (releaseTicket t s).ticket = s.ticket ∧ (releaseTicket t s).sched = s.sched ∧
    (releaseTicket t s).door = s.door ∧ (releaseTicket t s).press = s.press ∧
    (releaseTicket t s).car.position = s.car.position ∧ (releaseTicket t s).car.state = s.car.state ∧
    (releaseTicket t s).car.action = s.car.action ∧ (releaseTicket t s).car.doorHeld = s.car.doorHeld ∧
    (releaseTicket t s).car.stallHeld = s.car.stallHeld ∧
    (releaseTicket t s).car.markerLimit = s.car.markerLimit ∧
    (releaseTicket t s).car.actionLimit = s.car.actionLimit ∧
    (releaseTicket t s).car.inProgress = s.car.inProgress ∧ (releaseTicket t s).car.direction = s.car.direction ∧
    (releaseTicket t s).car.quench = s.car.quench ∧ (releaseTicket t s).car.hotTravel = s.car.hotTravel ∧
    (releaseTicket t s).car.quenchTimer = s.car.quenchTimer ∧
    (releaseTicket t s).car.drainTimer = s.car.drainTimer ∧ (releaseTicket t s).car.marker = s.car.marker ∧
    (releaseTicket t s).car.home = s.car.home ∧ (releaseTicket t s).store = s.store ∧
    (releaseTicket t s).panel = s.panel ∧ (releaseTicket t s).line.cutOff = s.line.cutOff ∧
    (releaseTicket t s).line.listener = s.line.listener := by
  simp [releaseTicket]

@[simp] theorem closeAtQuench_frame (s : State) :
    (closeAtQuench s).pending = s.pending ∧ (closeAtQuench s).pins = s.pins ∧
    (closeAtQuench s).resetRecord = s.resetRecord ∧ (closeAtQuench s).cfg = s.cfg ∧
    (closeAtQuench s).fresh = s.fresh ∧ (closeAtQuench s).line.state = s.line.state ∧
    (closeAtQuench s).line.ownReturn = s.line.ownReturn ∧ (closeAtQuench s).line.score = s.line.score ∧
    (closeAtQuench s).line.withdrawTimer = s.line.withdrawTimer ∧
    (closeAtQuench s).line.counters.rxGood = s.line.counters.rxGood ∧
    (closeAtQuench s).line.counters.rxBad = s.line.counters.rxBad ∧
    (closeAtQuench s).line.counters.txDone = s.line.counters.txDone ∧
    (closeAtQuench s).line.counters.txRetry = s.line.counters.txRetry ∧
    (closeAtQuench s).line.counters.lapses = s.line.counters.lapses ∧ (closeAtQuench s).peer = s.peer ∧
    (closeAtQuench s).ticket.record = s.ticket.record ∧ (closeAtQuench s).ticket.lastDone = s.ticket.lastDone ∧
    (closeAtQuench s).ticket.stopFlag = s.ticket.stopFlag ∧ (closeAtQuench s).ticket.pacing = s.ticket.pacing ∧
    (closeAtQuench s).sched.roster = s.sched.roster ∧ (closeAtQuench s).sched.cursor = s.sched.cursor ∧
    (closeAtQuench s).door = s.door ∧ (closeAtQuench s).press = s.press ∧
    (closeAtQuench s).store.array = s.store.array ∧ (closeAtQuench s).store.queue = s.store.queue ∧
    (closeAtQuench s).store.write = s.store.write ∧ (closeAtQuench s).panel.mask = s.panel.mask ∧
    (closeAtQuench s).panel.stopn = s.panel.stopn ∧ (closeAtQuench s).panel.reply = s.panel.reply ∧
    (closeAtQuench s).panel.restartPending = s.panel.restartPending ∧
    (closeAtQuench s).line.cutOff = s.line.cutOff ∧ (closeAtQuench s).line.listener = s.line.listener ∧
    (closeAtQuench s).panel.transaction = s.panel.transaction := by
  unfold closeAtQuench; (repeat' split) <;> simp

@[simp] theorem carClosing_frame (r : Record) (s : State) :
    (carClosing r s).pending = s.pending ∧ (carClosing r s).pins = s.pins ∧
    (carClosing r s).resetRecord = s.resetRecord ∧ (carClosing r s).cfg = s.cfg ∧
    (carClosing r s).fresh = s.fresh ∧ (carClosing r s).line.state = s.line.state ∧
    (carClosing r s).line.ownReturn = s.line.ownReturn ∧ (carClosing r s).line.score = s.line.score ∧
    (carClosing r s).line.withdrawTimer = s.line.withdrawTimer ∧
    (carClosing r s).line.counters.rxGood = s.line.counters.rxGood ∧
    (carClosing r s).line.counters.rxBad = s.line.counters.rxBad ∧
    (carClosing r s).line.counters.txDone = s.line.counters.txDone ∧
    (carClosing r s).line.counters.txRetry = s.line.counters.txRetry ∧
    (carClosing r s).line.counters.lapses = s.line.counters.lapses ∧ (carClosing r s).peer = s.peer ∧
    (carClosing r s).ticket.record = s.ticket.record ∧ (carClosing r s).ticket.lastDone = s.ticket.lastDone ∧
    (carClosing r s).ticket.stopFlag = s.ticket.stopFlag ∧ (carClosing r s).ticket.pacing = s.ticket.pacing ∧
    (carClosing r s).sched.roster = s.sched.roster ∧ (carClosing r s).sched.cursor = s.sched.cursor ∧
    (carClosing r s).door = s.door ∧ (carClosing r s).press = s.press ∧
    (carClosing r s).store.array = s.store.array ∧ (carClosing r s).store.queue = s.store.queue ∧
    (carClosing r s).store.write = s.store.write ∧ (carClosing r s).panel.mask = s.panel.mask ∧
    (carClosing r s).panel.stopn = s.panel.stopn ∧ (carClosing r s).panel.reply = s.panel.reply ∧
    (carClosing r s).panel.restartPending = s.panel.restartPending ∧
    (carClosing r s).line.cutOff = s.line.cutOff ∧ (carClosing r s).line.listener = s.line.listener ∧
    (carClosing r s).panel.transaction = s.panel.transaction := by
  simp only [carClosing]; (repeat' split) <;> simp

@[simp] theorem quenchReceives_frame (t : Ticket) (s : State) :
    (quenchReceives t s).pending = s.pending ∧ (quenchReceives t s).pins = s.pins ∧
    (quenchReceives t s).resetRecord = s.resetRecord ∧ (quenchReceives t s).cfg = s.cfg ∧
    (quenchReceives t s).fresh = s.fresh ∧ (quenchReceives t s).line.state = s.line.state ∧
    (quenchReceives t s).line.attempt = s.line.attempt ∧ (quenchReceives t s).line.ownReturn = s.line.ownReturn ∧
    (quenchReceives t s).line.score = s.line.score ∧
    (quenchReceives t s).line.withdrawTimer = s.line.withdrawTimer ∧ (quenchReceives t s).line.q2 = s.line.q2 ∧
    (quenchReceives t s).line.q3 = s.line.q3 ∧ (quenchReceives t s).line.dropped = s.line.dropped ∧
    (quenchReceives t s).line.counters = s.line.counters ∧ (quenchReceives t s).peer = s.peer ∧
    (quenchReceives t s).ticket = s.ticket ∧ (quenchReceives t s).sched = s.sched ∧
    (quenchReceives t s).door = s.door ∧ (quenchReceives t s).press = s.press ∧
    (quenchReceives t s).car.position = s.car.position ∧ (quenchReceives t s).car.state = s.car.state ∧
    (quenchReceives t s).car.action = s.car.action ∧ (quenchReceives t s).car.served = s.car.served ∧
    (quenchReceives t s).car.doorHeld = s.car.doorHeld ∧ (quenchReceives t s).car.stallHeld = s.car.stallHeld ∧
    (quenchReceives t s).car.faultDeclined = s.car.faultDeclined ∧
    (quenchReceives t s).car.markerLimit = s.car.markerLimit ∧
    (quenchReceives t s).car.actionLimit = s.car.actionLimit ∧ (quenchReceives t s).car.queue = s.car.queue ∧
    (quenchReceives t s).car.inProgress = s.car.inProgress ∧
    (quenchReceives t s).car.direction = s.car.direction ∧ (quenchReceives t s).car.hotTravel = s.car.hotTravel ∧
    (quenchReceives t s).car.quenchTimer = s.car.quenchTimer ∧
    (quenchReceives t s).car.drainTimer = s.car.drainTimer ∧ (quenchReceives t s).car.marker = s.car.marker ∧
    (quenchReceives t s).car.home = s.car.home ∧ (quenchReceives t s).store.array = s.store.array ∧
    (quenchReceives t s).store.queue = s.store.queue ∧ (quenchReceives t s).store.write = s.store.write ∧
    (quenchReceives t s).panel = s.panel ∧ (quenchReceives t s).line.cutOff = s.line.cutOff ∧
    (quenchReceives t s).line.listener = s.line.listener ∧
    (quenchReceives t s).car.actionServes = s.car.actionServes := by
  unfold quenchReceives; split <;> simp

@[simp] theorem carStopSet_frame (s : State) :
    (carStopSet s).pending = s.pending ∧ (carStopSet s).pins = s.pins ∧
    (carStopSet s).resetRecord = s.resetRecord ∧ (carStopSet s).cfg = s.cfg ∧ (carStopSet s).fresh = s.fresh ∧
    (carStopSet s).line = s.line ∧ (carStopSet s).peer = s.peer ∧ (carStopSet s).ticket = s.ticket ∧
    (carStopSet s).sched = s.sched ∧ (carStopSet s).door = s.door ∧ (carStopSet s).press = s.press ∧
    (carStopSet s).car.position = s.car.position ∧ (carStopSet s).car.state = s.car.state ∧
    (carStopSet s).car.action = s.car.action ∧ (carStopSet s).car.served = s.car.served ∧
    (carStopSet s).car.doorHeld = s.car.doorHeld ∧ (carStopSet s).car.stallHeld = s.car.stallHeld ∧
    (carStopSet s).car.faultDeclined = s.car.faultDeclined ∧ (carStopSet s).car.actionLimit = s.car.actionLimit ∧
    (carStopSet s).car.queue = s.car.queue ∧ (carStopSet s).car.inProgress = s.car.inProgress ∧
    (carStopSet s).car.direction = s.car.direction ∧ (carStopSet s).car.quench = s.car.quench ∧
    (carStopSet s).car.hotTravel = s.car.hotTravel ∧ (carStopSet s).car.quenchTimer = s.car.quenchTimer ∧
    (carStopSet s).car.drainTimer = s.car.drainTimer ∧ (carStopSet s).car.marker = s.car.marker ∧
    (carStopSet s).car.home = s.car.home ∧ (carStopSet s).store = s.store ∧ (carStopSet s).panel = s.panel ∧
    (carStopSet s).car.actionServes = s.car.actionServes := by
  simp [carStopSet]

@[simp] theorem carStopCleared_frame (s : State) :
    (carStopCleared s).pending = s.pending ∧ (carStopCleared s).pins = s.pins ∧
    (carStopCleared s).resetRecord = s.resetRecord ∧ (carStopCleared s).cfg = s.cfg ∧
    (carStopCleared s).fresh = s.fresh ∧ (carStopCleared s).line = s.line ∧ (carStopCleared s).peer = s.peer ∧
    (carStopCleared s).ticket = s.ticket ∧ (carStopCleared s).sched = s.sched ∧ (carStopCleared s).door = s.door ∧
    (carStopCleared s).press = s.press ∧ (carStopCleared s).car.position = s.car.position ∧
    (carStopCleared s).car.state = s.car.state ∧ (carStopCleared s).car.action = s.car.action ∧
    (carStopCleared s).car.served = s.car.served ∧ (carStopCleared s).car.doorHeld = s.car.doorHeld ∧
    (carStopCleared s).car.stallHeld = s.car.stallHeld ∧
    (carStopCleared s).car.faultDeclined = s.car.faultDeclined ∧
    (carStopCleared s).car.actionLimit = s.car.actionLimit ∧ (carStopCleared s).car.queue = s.car.queue ∧
    (carStopCleared s).car.inProgress = s.car.inProgress ∧ (carStopCleared s).car.direction = s.car.direction ∧
    (carStopCleared s).car.quench = s.car.quench ∧ (carStopCleared s).car.hotTravel = s.car.hotTravel ∧
    (carStopCleared s).car.quenchTimer = s.car.quenchTimer ∧
    (carStopCleared s).car.drainTimer = s.car.drainTimer ∧ (carStopCleared s).car.marker = s.car.marker ∧
    (carStopCleared s).car.home = s.car.home ∧ (carStopCleared s).store = s.store ∧
    (carStopCleared s).panel = s.panel ∧ (carStopCleared s).car.actionServes = s.car.actionServes := by
  unfold carStopCleared; split <;> simp

@[simp] theorem adoptStall_frame (r : Record) (s : State) :
    (adoptStall r s).pending = s.pending ∧ (adoptStall r s).pins = s.pins ∧
    (adoptStall r s).resetRecord = s.resetRecord ∧ (adoptStall r s).cfg = s.cfg ∧
    (adoptStall r s).fresh = s.fresh ∧ (adoptStall r s).line.state = s.line.state ∧
    (adoptStall r s).line.ownReturn = s.line.ownReturn ∧ (adoptStall r s).line.score = s.line.score ∧
    (adoptStall r s).line.withdrawTimer = s.line.withdrawTimer ∧
    (adoptStall r s).line.counters.rxGood = s.line.counters.rxGood ∧
    (adoptStall r s).line.counters.rxBad = s.line.counters.rxBad ∧
    (adoptStall r s).line.counters.txDone = s.line.counters.txDone ∧
    (adoptStall r s).line.counters.txRetry = s.line.counters.txRetry ∧
    (adoptStall r s).line.counters.lapses = s.line.counters.lapses ∧ (adoptStall r s).peer = s.peer ∧
    (adoptStall r s).ticket.record = s.ticket.record ∧ (adoptStall r s).ticket.lastDone = s.ticket.lastDone ∧
    (adoptStall r s).ticket.stopFlag = s.ticket.stopFlag ∧ (adoptStall r s).ticket.pacing = s.ticket.pacing ∧
    (adoptStall r s).sched.roster = s.sched.roster ∧ (adoptStall r s).sched.cursor = s.sched.cursor ∧
    (adoptStall r s).door = s.door ∧ (adoptStall r s).press = s.press ∧
    (adoptStall r s).car.position = s.car.position ∧ (adoptStall r s).car.state = s.car.state ∧
    (adoptStall r s).car.action = s.car.action ∧ (adoptStall r s).car.doorHeld = s.car.doorHeld ∧
    (adoptStall r s).car.faultDeclined = s.car.faultDeclined ∧
    (adoptStall r s).car.markerLimit = s.car.markerLimit ∧ (adoptStall r s).car.actionLimit = s.car.actionLimit ∧
    (adoptStall r s).car.queue = s.car.queue ∧ (adoptStall r s).car.inProgress = s.car.inProgress ∧
    (adoptStall r s).car.direction = s.car.direction ∧ (adoptStall r s).car.quench = s.car.quench ∧
    (adoptStall r s).car.hotTravel = s.car.hotTravel ∧ (adoptStall r s).car.quenchTimer = s.car.quenchTimer ∧
    (adoptStall r s).car.drainTimer = s.car.drainTimer ∧ (adoptStall r s).car.marker = s.car.marker ∧
    (adoptStall r s).car.home = s.car.home ∧ (adoptStall r s).store = s.store ∧
    (adoptStall r s).panel.mask = s.panel.mask ∧ (adoptStall r s).panel.stopn = s.panel.stopn ∧
    (adoptStall r s).panel.reply = s.panel.reply ∧
    (adoptStall r s).panel.restartPending = s.panel.restartPending ∧
    (adoptStall r s).line.cutOff = s.line.cutOff ∧ (adoptStall r s).line.listener = s.line.listener ∧
    (adoptStall r s).panel.transaction = s.panel.transaction := by
  unfold adoptStall; (repeat' split) <;> simp

@[simp] theorem resolvePushed_frame (s : State) :
    (resolvePushed s).pending = s.pending ∧ (resolvePushed s).pins = s.pins ∧
    (resolvePushed s).resetRecord = s.resetRecord ∧ (resolvePushed s).cfg = s.cfg ∧
    (resolvePushed s).fresh = s.fresh ∧ (resolvePushed s).line.state = s.line.state ∧
    (resolvePushed s).line.ownReturn = s.line.ownReturn ∧ (resolvePushed s).line.score = s.line.score ∧
    (resolvePushed s).line.withdrawTimer = s.line.withdrawTimer ∧
    (resolvePushed s).line.counters.rxGood = s.line.counters.rxGood ∧
    (resolvePushed s).line.counters.rxBad = s.line.counters.rxBad ∧
    (resolvePushed s).line.counters.txDone = s.line.counters.txDone ∧
    (resolvePushed s).line.counters.txRetry = s.line.counters.txRetry ∧
    (resolvePushed s).line.counters.lapses = s.line.counters.lapses ∧ (resolvePushed s).peer = s.peer ∧
    (resolvePushed s).ticket.record = s.ticket.record ∧ (resolvePushed s).ticket.lastDone = s.ticket.lastDone ∧
    (resolvePushed s).ticket.stopFlag = s.ticket.stopFlag ∧ (resolvePushed s).ticket.pacing = s.ticket.pacing ∧
    (resolvePushed s).sched.roster = s.sched.roster ∧ (resolvePushed s).sched.cursor = s.sched.cursor ∧
    (resolvePushed s).door = s.door ∧ (resolvePushed s).press = s.press ∧
    (resolvePushed s).car.position = s.car.position ∧ (resolvePushed s).car.served = s.car.served ∧
    (resolvePushed s).car.doorHeld = s.car.doorHeld ∧ (resolvePushed s).car.faultDeclined = s.car.faultDeclined ∧
    (resolvePushed s).car.markerLimit = s.car.markerLimit ∧ (resolvePushed s).car.inProgress = s.car.inProgress ∧
    (resolvePushed s).car.direction = s.car.direction ∧ (resolvePushed s).car.quench = s.car.quench ∧
    (resolvePushed s).car.hotTravel = s.car.hotTravel ∧ (resolvePushed s).car.quenchTimer = s.car.quenchTimer ∧
    (resolvePushed s).car.drainTimer = s.car.drainTimer ∧ (resolvePushed s).car.marker = s.car.marker ∧
    (resolvePushed s).car.home = s.car.home ∧ (resolvePushed s).store = s.store ∧
    (resolvePushed s).panel.mask = s.panel.mask ∧ (resolvePushed s).panel.stopn = s.panel.stopn ∧
    (resolvePushed s).panel.reply = s.panel.reply ∧
    (resolvePushed s).panel.restartPending = s.panel.restartPending ∧
    (resolvePushed s).line.cutOff = s.line.cutOff ∧ (resolvePushed s).line.listener = s.line.listener ∧
    (resolvePushed s).car.actionServes = s.car.actionServes ∧ (resolvePushed s).panel.transaction = s.panel.transaction := by
  unfold resolvePushed; split <;> simp

@[simp] theorem resolveNotPushed_frame (s : State) :
    (resolveNotPushed s).pending = s.pending ∧ (resolveNotPushed s).pins = s.pins ∧
    (resolveNotPushed s).resetRecord = s.resetRecord ∧ (resolveNotPushed s).cfg = s.cfg ∧
    (resolveNotPushed s).fresh = s.fresh ∧ (resolveNotPushed s).line.state = s.line.state ∧
    (resolveNotPushed s).line.ownReturn = s.line.ownReturn ∧ (resolveNotPushed s).line.score = s.line.score ∧
    (resolveNotPushed s).line.withdrawTimer = s.line.withdrawTimer ∧
    (resolveNotPushed s).line.counters.rxGood = s.line.counters.rxGood ∧
    (resolveNotPushed s).line.counters.rxBad = s.line.counters.rxBad ∧
    (resolveNotPushed s).line.counters.txDone = s.line.counters.txDone ∧
    (resolveNotPushed s).line.counters.txRetry = s.line.counters.txRetry ∧
    (resolveNotPushed s).line.counters.lapses = s.line.counters.lapses ∧ (resolveNotPushed s).peer = s.peer ∧
    (resolveNotPushed s).ticket.record = s.ticket.record ∧
    (resolveNotPushed s).ticket.lastDone = s.ticket.lastDone ∧
    (resolveNotPushed s).ticket.stopFlag = s.ticket.stopFlag ∧
    (resolveNotPushed s).ticket.pacing = s.ticket.pacing ∧ (resolveNotPushed s).sched.roster = s.sched.roster ∧
    (resolveNotPushed s).sched.cursor = s.sched.cursor ∧ (resolveNotPushed s).door = s.door ∧
    (resolveNotPushed s).press = s.press ∧ (resolveNotPushed s).car.position = s.car.position ∧
    (resolveNotPushed s).car.served = s.car.served ∧ (resolveNotPushed s).car.doorHeld = s.car.doorHeld ∧
    (resolveNotPushed s).car.queue = s.car.queue ∧ (resolveNotPushed s).car.direction = s.car.direction ∧
    (resolveNotPushed s).car.quench = s.car.quench ∧ (resolveNotPushed s).car.hotTravel = s.car.hotTravel ∧
    (resolveNotPushed s).car.quenchTimer = s.car.quenchTimer ∧
    (resolveNotPushed s).car.drainTimer = s.car.drainTimer ∧ (resolveNotPushed s).car.marker = s.car.marker ∧
    (resolveNotPushed s).car.home = s.car.home ∧ (resolveNotPushed s).store = s.store ∧
    (resolveNotPushed s).panel.mask = s.panel.mask ∧ (resolveNotPushed s).panel.stopn = s.panel.stopn ∧
    (resolveNotPushed s).panel.reply = s.panel.reply ∧
    (resolveNotPushed s).panel.restartPending = s.panel.restartPending ∧
    (resolveNotPushed s).line.cutOff = s.line.cutOff ∧ (resolveNotPushed s).line.listener = s.line.listener ∧
    (resolveNotPushed s).car.actionServes = s.car.actionServes ∧
    (resolveNotPushed s).panel.transaction = s.panel.transaction := by
  simp [resolveNotPushed]

@[simp] theorem clearCar_frame (s : State) :
    (clearCar s).pending = s.pending ∧ (clearCar s).pins = s.pins ∧ (clearCar s).resetRecord = s.resetRecord ∧
    (clearCar s).cfg = s.cfg ∧ (clearCar s).fresh = s.fresh ∧ (clearCar s).line.state = s.line.state ∧
    (clearCar s).line.ownReturn = s.line.ownReturn ∧ (clearCar s).line.score = s.line.score ∧
    (clearCar s).line.withdrawTimer = s.line.withdrawTimer ∧
    (clearCar s).line.counters.rxGood = s.line.counters.rxGood ∧
    (clearCar s).line.counters.rxBad = s.line.counters.rxBad ∧
    (clearCar s).line.counters.txDone = s.line.counters.txDone ∧
    (clearCar s).line.counters.txRetry = s.line.counters.txRetry ∧
    (clearCar s).line.counters.lapses = s.line.counters.lapses ∧ (clearCar s).peer = s.peer ∧
    (clearCar s).ticket.record = s.ticket.record ∧ (clearCar s).ticket.lastDone = s.ticket.lastDone ∧
    (clearCar s).ticket.stopFlag = s.ticket.stopFlag ∧ (clearCar s).ticket.pacing = s.ticket.pacing ∧
    (clearCar s).sched.roster = s.sched.roster ∧ (clearCar s).sched.cursor = s.sched.cursor ∧
    (clearCar s).door = s.door ∧ (clearCar s).press = s.press ∧ (clearCar s).car.action = s.car.action ∧
    (clearCar s).car.stallHeld = s.car.stallHeld ∧ (clearCar s).car.markerLimit = s.car.markerLimit ∧
    (clearCar s).car.actionLimit = s.car.actionLimit ∧ (clearCar s).car.inProgress = s.car.inProgress ∧
    (clearCar s).car.direction = s.car.direction ∧ (clearCar s).car.quench = s.car.quench ∧
    (clearCar s).car.hotTravel = s.car.hotTravel ∧ (clearCar s).car.quenchTimer = s.car.quenchTimer ∧
    (clearCar s).car.drainTimer = s.car.drainTimer ∧ (clearCar s).car.marker = s.car.marker ∧
    (clearCar s).car.home = s.car.home ∧ (clearCar s).store = s.store ∧ (clearCar s).panel.mask = s.panel.mask ∧
    (clearCar s).panel.stopn = s.panel.stopn ∧ (clearCar s).panel.reply = s.panel.reply ∧
    (clearCar s).panel.restartPending = s.panel.restartPending ∧ (clearCar s).line.cutOff = s.line.cutOff ∧
    (clearCar s).line.listener = s.line.listener ∧ (clearCar s).panel.transaction = s.panel.transaction := by
  simp only [clearCar]; (repeat' split) <;> simp

@[simp] theorem quenchExpires_frame (s : State) :
    (quenchExpires s).pending = s.pending ∧ (quenchExpires s).pins = s.pins ∧
    (quenchExpires s).resetRecord = s.resetRecord ∧ (quenchExpires s).cfg = s.cfg ∧
    (quenchExpires s).fresh = s.fresh ∧ (quenchExpires s).line = s.line ∧ (quenchExpires s).peer = s.peer ∧
    (quenchExpires s).ticket = s.ticket ∧ (quenchExpires s).sched = s.sched ∧ (quenchExpires s).door = s.door ∧
    (quenchExpires s).press = s.press ∧ (quenchExpires s).car.position = s.car.position ∧
    (quenchExpires s).car.state = s.car.state ∧ (quenchExpires s).car.action = s.car.action ∧
    (quenchExpires s).car.served = s.car.served ∧ (quenchExpires s).car.doorHeld = s.car.doorHeld ∧
    (quenchExpires s).car.stallHeld = s.car.stallHeld ∧
    (quenchExpires s).car.faultDeclined = s.car.faultDeclined ∧
    (quenchExpires s).car.markerLimit = s.car.markerLimit ∧
    (quenchExpires s).car.actionLimit = s.car.actionLimit ∧ (quenchExpires s).car.queue = s.car.queue ∧
    (quenchExpires s).car.inProgress = s.car.inProgress ∧ (quenchExpires s).car.direction = s.car.direction ∧
    (quenchExpires s).car.hotTravel = s.car.hotTravel ∧ (quenchExpires s).car.marker = s.car.marker ∧
    (quenchExpires s).car.home = s.car.home ∧ (quenchExpires s).store.array = s.store.array ∧
    (quenchExpires s).store.queue = s.store.queue ∧ (quenchExpires s).store.write = s.store.write ∧
    (quenchExpires s).panel = s.panel ∧ (quenchExpires s).car.actionServes = s.car.actionServes := by
  simp [quenchExpires]

@[simp] theorem drainExpires_frame (s : State) :
    (drainExpires s).pending = s.pending ∧ (drainExpires s).pins = s.pins ∧
    (drainExpires s).resetRecord = s.resetRecord ∧ (drainExpires s).cfg = s.cfg ∧
    (drainExpires s).fresh = s.fresh ∧ (drainExpires s).line.state = s.line.state ∧
    (drainExpires s).line.ownReturn = s.line.ownReturn ∧ (drainExpires s).line.score = s.line.score ∧
    (drainExpires s).line.withdrawTimer = s.line.withdrawTimer ∧
    (drainExpires s).line.counters.rxGood = s.line.counters.rxGood ∧
    (drainExpires s).line.counters.rxBad = s.line.counters.rxBad ∧
    (drainExpires s).line.counters.txDone = s.line.counters.txDone ∧
    (drainExpires s).line.counters.txRetry = s.line.counters.txRetry ∧
    (drainExpires s).line.counters.lapses = s.line.counters.lapses ∧ (drainExpires s).peer = s.peer ∧
    (drainExpires s).ticket.record = s.ticket.record ∧ (drainExpires s).ticket.lastDone = s.ticket.lastDone ∧
    (drainExpires s).ticket.stopFlag = s.ticket.stopFlag ∧ (drainExpires s).ticket.pacing = s.ticket.pacing ∧
    (drainExpires s).sched.roster = s.sched.roster ∧ (drainExpires s).sched.cursor = s.sched.cursor ∧
    (drainExpires s).door = s.door ∧ (drainExpires s).press = s.press ∧ (drainExpires s).store = s.store ∧
    (drainExpires s).panel.mask = s.panel.mask ∧ (drainExpires s).panel.stopn = s.panel.stopn ∧
    (drainExpires s).panel.reply = s.panel.reply ∧
    (drainExpires s).panel.restartPending = s.panel.restartPending ∧
    (drainExpires s).line.cutOff = s.line.cutOff ∧ (drainExpires s).line.listener = s.line.listener ∧
    (drainExpires s).panel.transaction = s.panel.transaction := by
  simp only [drainExpires]; (repeat' split) <;> simp

end Sys2Proof.Machine
end

