-- ==== Sys2Proof/Laws/FrameTickets.lean ====
section
/-! SUPPORT. What each shared operation of the ticket unit leaves unchanged: one lemma each, all of it a simp set. -/

namespace Sys2Proof.Machine

@[simp] theorem mapRecord_frame (f : Record → Record) (s : State) :
    (mapRecord f s).pending = s.pending ∧ (mapRecord f s).pins = s.pins ∧
    (mapRecord f s).resetRecord = s.resetRecord ∧ (mapRecord f s).cfg = s.cfg ∧ (mapRecord f s).fresh = s.fresh ∧
    (mapRecord f s).line = s.line ∧ (mapRecord f s).peer = s.peer ∧
    (mapRecord f s).ticket.lastDone = s.ticket.lastDone ∧ (mapRecord f s).ticket.stopFlag = s.ticket.stopFlag ∧
    (mapRecord f s).ticket.claim = s.ticket.claim ∧ (mapRecord f s).ticket.pacing = s.ticket.pacing ∧
    (mapRecord f s).ticket.backoff = s.ticket.backoff ∧ (mapRecord f s).ticket.context = s.ticket.context ∧
    (mapRecord f s).sched = s.sched ∧ (mapRecord f s).door = s.door ∧ (mapRecord f s).press = s.press ∧
    (mapRecord f s).car = s.car ∧ (mapRecord f s).store = s.store ∧ (mapRecord f s).panel = s.panel := by
  simp [mapRecord]

@[simp] theorem mapContext_frame (f : Context → Context) (s : State) :
    (mapContext f s).pending = s.pending ∧ (mapContext f s).pins = s.pins ∧
    (mapContext f s).resetRecord = s.resetRecord ∧ (mapContext f s).cfg = s.cfg ∧
    (mapContext f s).fresh = s.fresh ∧ (mapContext f s).line = s.line ∧ (mapContext f s).peer = s.peer ∧
    (mapContext f s).ticket.record = s.ticket.record ∧ (mapContext f s).ticket.lastDone = s.ticket.lastDone ∧
    (mapContext f s).ticket.stopFlag = s.ticket.stopFlag ∧ (mapContext f s).ticket.claim = s.ticket.claim ∧
    (mapContext f s).ticket.pacing = s.ticket.pacing ∧ (mapContext f s).ticket.backoff = s.ticket.backoff ∧
    (mapContext f s).sched = s.sched ∧ (mapContext f s).door = s.door ∧ (mapContext f s).press = s.press ∧
    (mapContext f s).car = s.car ∧ (mapContext f s).store = s.store ∧ (mapContext f s).panel = s.panel := by
  simp [mapContext]

@[simp] theorem ovenFollows_frame (old : Option Phase) (r : Record) (s : State) :
    (ovenFollows old r s).pending = s.pending ∧ (ovenFollows old r s).pins = s.pins ∧
    (ovenFollows old r s).resetRecord = s.resetRecord ∧ (ovenFollows old r s).cfg = s.cfg ∧
    (ovenFollows old r s).fresh = s.fresh ∧ (ovenFollows old r s).line = s.line ∧
    (ovenFollows old r s).peer = s.peer ∧ (ovenFollows old r s).ticket = s.ticket ∧
    (ovenFollows old r s).sched.roster = s.sched.roster ∧ (ovenFollows old r s).sched.cursor = s.sched.cursor ∧
    (ovenFollows old r s).press = s.press ∧ (ovenFollows old r s).car = s.car ∧
    (ovenFollows old r s).store.array = s.store.array ∧ (ovenFollows old r s).store.queue = s.store.queue ∧
    (ovenFollows old r s).store.write = s.store.write ∧ (ovenFollows old r s).panel.mask = s.panel.mask ∧
    (ovenFollows old r s).panel.stopn = s.panel.stopn ∧ (ovenFollows old r s).panel.reply = s.panel.reply ∧
    (ovenFollows old r s).panel.restartPending = s.panel.restartPending ∧
    (ovenFollows old r s).panel.transaction = s.panel.transaction := by
  unfold ovenFollows; (repeat' split) <;> simp

@[simp] theorem limitsAtPhase_frame (r : Record) (s : State) :
    (limitsAtPhase r s).pending = s.pending ∧ (limitsAtPhase r s).pins = s.pins ∧
    (limitsAtPhase r s).resetRecord = s.resetRecord ∧ (limitsAtPhase r s).cfg = s.cfg ∧
    (limitsAtPhase r s).fresh = s.fresh ∧ (limitsAtPhase r s).line = s.line ∧ (limitsAtPhase r s).peer = s.peer ∧
    (limitsAtPhase r s).ticket.record = s.ticket.record ∧
    (limitsAtPhase r s).ticket.lastDone = s.ticket.lastDone ∧
    (limitsAtPhase r s).ticket.stopFlag = s.ticket.stopFlag ∧ (limitsAtPhase r s).ticket.claim = s.ticket.claim ∧
    (limitsAtPhase r s).ticket.pacing = s.ticket.pacing ∧ (limitsAtPhase r s).ticket.backoff = s.ticket.backoff ∧
    (limitsAtPhase r s).sched = s.sched ∧ (limitsAtPhase r s).door = s.door ∧
    (limitsAtPhase r s).press = s.press ∧ (limitsAtPhase r s).car = s.car ∧ (limitsAtPhase r s).store = s.store ∧
    (limitsAtPhase r s).panel = s.panel := by
  unfold limitsAtPhase; split <;> simp

@[simp] theorem advanceRecord_frame (p : Phase) (s : State) :
    (advanceRecord p s).pending = s.pending ∧ (advanceRecord p s).pins = s.pins ∧
    (advanceRecord p s).resetRecord = s.resetRecord ∧ (advanceRecord p s).cfg = s.cfg ∧
    (advanceRecord p s).fresh = s.fresh ∧ (advanceRecord p s).line.state = s.line.state ∧
    (advanceRecord p s).line.attempt = s.line.attempt ∧ (advanceRecord p s).line.ownReturn = s.line.ownReturn ∧
    (advanceRecord p s).line.score = s.line.score ∧
    (advanceRecord p s).line.withdrawTimer = s.line.withdrawTimer ∧ (advanceRecord p s).line.q0 = s.line.q0 ∧
    (advanceRecord p s).line.q1 = s.line.q1 ∧ (advanceRecord p s).line.q2 = s.line.q2 ∧
    (advanceRecord p s).line.q3 = s.line.q3 ∧ (advanceRecord p s).line.counters = s.line.counters ∧
    (advanceRecord p s).peer = s.peer ∧ (advanceRecord p s).ticket.lastDone = s.ticket.lastDone ∧
    (advanceRecord p s).ticket.stopFlag = s.ticket.stopFlag ∧ (advanceRecord p s).ticket.claim = s.ticket.claim ∧
    (advanceRecord p s).ticket.pacing = s.ticket.pacing ∧ (advanceRecord p s).ticket.backoff = s.ticket.backoff ∧
    (advanceRecord p s).sched.roster = s.sched.roster ∧ (advanceRecord p s).sched.cursor = s.sched.cursor ∧
    (advanceRecord p s).press = s.press ∧ (advanceRecord p s).car = s.car ∧
    (advanceRecord p s).store.array = s.store.array ∧ (advanceRecord p s).store.queue = s.store.queue ∧
    (advanceRecord p s).store.write = s.store.write ∧ (advanceRecord p s).panel.mask = s.panel.mask ∧
    (advanceRecord p s).panel.stopn = s.panel.stopn ∧ (advanceRecord p s).panel.reply = s.panel.reply ∧
    (advanceRecord p s).panel.restartPending = s.panel.restartPending ∧
    (advanceRecord p s).line.cutOff = s.line.cutOff ∧ (advanceRecord p s).line.listener = s.line.listener ∧
    (advanceRecord p s).panel.transaction = s.panel.transaction := by
  simp only [advanceRecord]; (repeat' split) <;> simp

@[simp] theorem openRecord_frame (t : Ticket) (oven : Nat) (src : Nat) (s : State) :
    (openRecord t oven src s).pending = s.pending ∧ (openRecord t oven src s).pins = s.pins ∧
    (openRecord t oven src s).resetRecord = s.resetRecord ∧ (openRecord t oven src s).cfg = s.cfg ∧
    (openRecord t oven src s).fresh = s.fresh ∧ (openRecord t oven src s).line = s.line ∧
    (openRecord t oven src s).peer = s.peer ∧ (openRecord t oven src s).ticket.lastDone = s.ticket.lastDone ∧
    (openRecord t oven src s).ticket.stopFlag = s.ticket.stopFlag ∧
    (openRecord t oven src s).ticket.claim = s.ticket.claim ∧
    (openRecord t oven src s).ticket.pacing = s.ticket.pacing ∧
    (openRecord t oven src s).ticket.backoff = s.ticket.backoff ∧
    (openRecord t oven src s).sched.roster = s.sched.roster ∧
    (openRecord t oven src s).sched.cursor = s.sched.cursor ∧ (openRecord t oven src s).press = s.press ∧
    (openRecord t oven src s).car = s.car ∧ (openRecord t oven src s).store.array = s.store.array ∧
    (openRecord t oven src s).store.queue = s.store.queue ∧
    (openRecord t oven src s).store.write = s.store.write ∧ (openRecord t oven src s).panel.mask = s.panel.mask ∧
    (openRecord t oven src s).panel.stopn = s.panel.stopn ∧
    (openRecord t oven src s).panel.reply = s.panel.reply ∧
    (openRecord t oven src s).panel.restartPending = s.panel.restartPending ∧
    (openRecord t oven src s).panel.transaction = s.panel.transaction := by
  simp [openRecord]

@[simp] theorem setLastDone_frame (t : Ticket) (s : State) :
    (setLastDone t s).pending = s.pending ∧ (setLastDone t s).pins = s.pins ∧
    (setLastDone t s).resetRecord = s.resetRecord ∧ (setLastDone t s).cfg = s.cfg ∧
    (setLastDone t s).fresh = s.fresh ∧ (setLastDone t s).line = s.line ∧ (setLastDone t s).peer = s.peer ∧
    (setLastDone t s).ticket.record = s.ticket.record ∧ (setLastDone t s).ticket.stopFlag = s.ticket.stopFlag ∧
    (setLastDone t s).ticket.claim = s.ticket.claim ∧ (setLastDone t s).ticket.pacing = s.ticket.pacing ∧
    (setLastDone t s).ticket.backoff = s.ticket.backoff ∧ (setLastDone t s).ticket.context = s.ticket.context ∧
    (setLastDone t s).sched = s.sched ∧ (setLastDone t s).door = s.door ∧ (setLastDone t s).press = s.press ∧
    (setLastDone t s).car = s.car ∧ (setLastDone t s).store.array = s.store.array ∧
    (setLastDone t s).store.queue = s.store.queue ∧ (setLastDone t s).store.write = s.store.write ∧
    (setLastDone t s).panel = s.panel := by
  simp [setLastDone]

@[simp] theorem startPacing_frame (s : State) :
    (startPacing s).pending = s.pending ∧ (startPacing s).pins = s.pins ∧
    (startPacing s).resetRecord = s.resetRecord ∧ (startPacing s).cfg = s.cfg ∧ (startPacing s).fresh = s.fresh ∧
    (startPacing s).line.state = s.line.state ∧ (startPacing s).line.attempt = s.line.attempt ∧
    (startPacing s).line.ownReturn = s.line.ownReturn ∧ (startPacing s).line.score = s.line.score ∧
    (startPacing s).line.withdrawTimer = s.line.withdrawTimer ∧ (startPacing s).line.q2 = s.line.q2 ∧
    (startPacing s).line.q3 = s.line.q3 ∧ (startPacing s).line.dropped = s.line.dropped ∧
    (startPacing s).line.counters = s.line.counters ∧ (startPacing s).peer = s.peer ∧
    (startPacing s).ticket.record = s.ticket.record ∧ (startPacing s).ticket.lastDone = s.ticket.lastDone ∧
    (startPacing s).ticket.stopFlag = s.ticket.stopFlag ∧ (startPacing s).ticket.context = s.ticket.context ∧
    (startPacing s).sched.roster = s.sched.roster ∧ (startPacing s).sched.cursor = s.sched.cursor ∧
    (startPacing s).door = s.door ∧ (startPacing s).press = s.press ∧ (startPacing s).car = s.car ∧
    (startPacing s).store = s.store ∧ (startPacing s).panel = s.panel ∧
    (startPacing s).line.cutOff = s.line.cutOff ∧ (startPacing s).line.listener = s.line.listener := by
  unfold startPacing; split <;> simp

@[simp] theorem startBackoff_frame (s : State) :
    (startBackoff s).pending = s.pending ∧ (startBackoff s).pins = s.pins ∧
    (startBackoff s).resetRecord = s.resetRecord ∧ (startBackoff s).cfg = s.cfg ∧
    (startBackoff s).fresh = s.fresh ∧ (startBackoff s).line = s.line ∧ (startBackoff s).peer = s.peer ∧
    (startBackoff s).ticket.record = s.ticket.record ∧ (startBackoff s).ticket.lastDone = s.ticket.lastDone ∧
    (startBackoff s).ticket.stopFlag = s.ticket.stopFlag ∧ (startBackoff s).ticket.claim = s.ticket.claim ∧
    (startBackoff s).ticket.pacing = s.ticket.pacing ∧ (startBackoff s).ticket.context = s.ticket.context ∧
    (startBackoff s).sched = s.sched ∧ (startBackoff s).door = s.door ∧ (startBackoff s).press = s.press ∧
    (startBackoff s).car = s.car ∧ (startBackoff s).store = s.store ∧ (startBackoff s).panel = s.panel := by
  simp [startBackoff]

@[simp] theorem closeAtOwner_frame (kind : Closing) (r : Record) (k : Nat) (s : State) :
    (closeAtOwner kind r k s).pending = s.pending ∧ (closeAtOwner kind r k s).pins = s.pins ∧
    (closeAtOwner kind r k s).resetRecord = s.resetRecord ∧ (closeAtOwner kind r k s).cfg = s.cfg ∧
    (closeAtOwner kind r k s).fresh = s.fresh ∧ (closeAtOwner kind r k s).line = s.line ∧
    (closeAtOwner kind r k s).peer = s.peer ∧ (closeAtOwner kind r k s).ticket.record = s.ticket.record ∧
    (closeAtOwner kind r k s).ticket.lastDone = s.ticket.lastDone ∧
    (closeAtOwner kind r k s).ticket.stopFlag = s.ticket.stopFlag ∧
    (closeAtOwner kind r k s).ticket.claim = s.ticket.claim ∧
    (closeAtOwner kind r k s).ticket.pacing = s.ticket.pacing ∧
    (closeAtOwner kind r k s).ticket.context = s.ticket.context ∧
    (closeAtOwner kind r k s).sched.roster = s.sched.roster ∧
    (closeAtOwner kind r k s).sched.cursor = s.sched.cursor ∧ (closeAtOwner kind r k s).press = s.press ∧
    (closeAtOwner kind r k s).car = s.car ∧ (closeAtOwner kind r k s).store.array = s.store.array ∧
    (closeAtOwner kind r k s).store.queue = s.store.queue ∧
    (closeAtOwner kind r k s).store.write = s.store.write ∧ (closeAtOwner kind r k s).panel.mask = s.panel.mask ∧
    (closeAtOwner kind r k s).panel.stopn = s.panel.stopn ∧
    (closeAtOwner kind r k s).panel.reply = s.panel.reply ∧
    (closeAtOwner kind r k s).panel.restartPending = s.panel.restartPending ∧
    (closeAtOwner kind r k s).panel.transaction = s.panel.transaction := by
  unfold closeAtOwner; (repeat' split) <;> simp

@[simp] theorem closeRecord_frame (kind : Closing) (s : State) :
    (closeRecord kind s).pending = s.pending ∧ (closeRecord kind s).pins = s.pins ∧
    (closeRecord kind s).resetRecord = s.resetRecord ∧ (closeRecord kind s).cfg = s.cfg ∧
    (closeRecord kind s).fresh = s.fresh ∧ (closeRecord kind s).line.state = s.line.state ∧
    (closeRecord kind s).line.ownReturn = s.line.ownReturn ∧ (closeRecord kind s).line.score = s.line.score ∧
    (closeRecord kind s).line.withdrawTimer = s.line.withdrawTimer ∧
    (closeRecord kind s).line.counters.rxGood = s.line.counters.rxGood ∧
    (closeRecord kind s).line.counters.rxBad = s.line.counters.rxBad ∧
    (closeRecord kind s).line.counters.txDone = s.line.counters.txDone ∧
    (closeRecord kind s).line.counters.txRetry = s.line.counters.txRetry ∧
    (closeRecord kind s).line.counters.lapses = s.line.counters.lapses ∧ (closeRecord kind s).peer = s.peer ∧
    (closeRecord kind s).ticket.lastDone = s.ticket.lastDone ∧
    (closeRecord kind s).ticket.stopFlag = s.ticket.stopFlag ∧
    (closeRecord kind s).ticket.pacing = s.ticket.pacing ∧ (closeRecord kind s).sched.roster = s.sched.roster ∧
    (closeRecord kind s).sched.cursor = s.sched.cursor ∧ (closeRecord kind s).press = s.press ∧
    (closeRecord kind s).store.array = s.store.array ∧ (closeRecord kind s).store.queue = s.store.queue ∧
    (closeRecord kind s).store.write = s.store.write ∧ (closeRecord kind s).panel.mask = s.panel.mask ∧
    (closeRecord kind s).panel.stopn = s.panel.stopn ∧ (closeRecord kind s).panel.reply = s.panel.reply ∧
    (closeRecord kind s).panel.restartPending = s.panel.restartPending ∧
    (closeRecord kind s).line.cutOff = s.line.cutOff ∧ (closeRecord kind s).line.listener = s.line.listener ∧
    (closeRecord kind s).panel.transaction = s.panel.transaction := by
  simp only [closeRecord]; (repeat' split) <;> simp

@[simp] theorem offerAbandon_frame (reason : AbandonReason) (s : State) :
    (offerAbandon reason s).pending = s.pending ∧ (offerAbandon reason s).pins = s.pins ∧
    (offerAbandon reason s).resetRecord = s.resetRecord ∧ (offerAbandon reason s).cfg = s.cfg ∧
    (offerAbandon reason s).fresh = s.fresh ∧ (offerAbandon reason s).line.state = s.line.state ∧
    (offerAbandon reason s).line.ownReturn = s.line.ownReturn ∧
    (offerAbandon reason s).line.score = s.line.score ∧
    (offerAbandon reason s).line.withdrawTimer = s.line.withdrawTimer ∧
    (offerAbandon reason s).line.counters.rxGood = s.line.counters.rxGood ∧
    (offerAbandon reason s).line.counters.rxBad = s.line.counters.rxBad ∧
    (offerAbandon reason s).line.counters.txDone = s.line.counters.txDone ∧
    (offerAbandon reason s).line.counters.txRetry = s.line.counters.txRetry ∧
    (offerAbandon reason s).line.counters.lapses = s.line.counters.lapses ∧
    (offerAbandon reason s).peer = s.peer ∧ (offerAbandon reason s).ticket.lastDone = s.ticket.lastDone ∧
    (offerAbandon reason s).ticket.stopFlag = s.ticket.stopFlag ∧
    (offerAbandon reason s).ticket.pacing = s.ticket.pacing ∧
    (offerAbandon reason s).sched.roster = s.sched.roster ∧
    (offerAbandon reason s).sched.cursor = s.sched.cursor ∧ (offerAbandon reason s).door = s.door ∧
    (offerAbandon reason s).press = s.press ∧ (offerAbandon reason s).car = s.car ∧
    (offerAbandon reason s).store = s.store ∧ (offerAbandon reason s).panel.mask = s.panel.mask ∧
    (offerAbandon reason s).panel.stopn = s.panel.stopn ∧ (offerAbandon reason s).panel.reply = s.panel.reply ∧
    (offerAbandon reason s).panel.restartPending = s.panel.restartPending ∧
    (offerAbandon reason s).line.cutOff = s.line.cutOff ∧
    (offerAbandon reason s).line.listener = s.line.listener ∧
    (offerAbandon reason s).panel.transaction = s.panel.transaction := by
  unfold offerAbandon; (repeat' split) <;> simp

@[simp] theorem adoptDone_frame (t : Ticket) (oven : Nat) (s : State) :
    (adoptDone t oven s).pending = s.pending ∧ (adoptDone t oven s).pins = s.pins ∧
    (adoptDone t oven s).resetRecord = s.resetRecord ∧ (adoptDone t oven s).cfg = s.cfg ∧
    (adoptDone t oven s).fresh = s.fresh ∧ (adoptDone t oven s).line.state = s.line.state ∧
    (adoptDone t oven s).line.attempt = s.line.attempt ∧ (adoptDone t oven s).line.ownReturn = s.line.ownReturn ∧
    (adoptDone t oven s).line.score = s.line.score ∧
    (adoptDone t oven s).line.withdrawTimer = s.line.withdrawTimer ∧ (adoptDone t oven s).line.q2 = s.line.q2 ∧
    (adoptDone t oven s).line.q3 = s.line.q3 ∧ (adoptDone t oven s).line.dropped = s.line.dropped ∧
    (adoptDone t oven s).line.counters = s.line.counters ∧ (adoptDone t oven s).peer = s.peer ∧
    (adoptDone t oven s).ticket.record = s.ticket.record ∧
    (adoptDone t oven s).ticket.stopFlag = s.ticket.stopFlag ∧
    (adoptDone t oven s).ticket.context = s.ticket.context ∧ (adoptDone t oven s).sched.roster = s.sched.roster ∧
    (adoptDone t oven s).door = s.door ∧ (adoptDone t oven s).press = s.press ∧ (adoptDone t oven s).car = s.car ∧
    (adoptDone t oven s).store.array = s.store.array ∧ (adoptDone t oven s).store.queue = s.store.queue ∧
    (adoptDone t oven s).store.write = s.store.write ∧ (adoptDone t oven s).panel = s.panel ∧
    (adoptDone t oven s).line.cutOff = s.line.cutOff ∧ (adoptDone t oven s).line.listener = s.line.listener := by
  simp only [adoptDone]; (repeat' split) <;> simp

@[simp] theorem adoptLastDone_frame (b : Standing) (s : State) :
    (adoptLastDone b s).pending = s.pending ∧ (adoptLastDone b s).pins = s.pins ∧
    (adoptLastDone b s).resetRecord = s.resetRecord ∧ (adoptLastDone b s).cfg = s.cfg ∧
    (adoptLastDone b s).fresh = s.fresh ∧ (adoptLastDone b s).line.state = s.line.state ∧
    (adoptLastDone b s).line.ownReturn = s.line.ownReturn ∧ (adoptLastDone b s).line.score = s.line.score ∧
    (adoptLastDone b s).line.withdrawTimer = s.line.withdrawTimer ∧
    (adoptLastDone b s).line.counters.rxGood = s.line.counters.rxGood ∧
    (adoptLastDone b s).line.counters.rxBad = s.line.counters.rxBad ∧
    (adoptLastDone b s).line.counters.txDone = s.line.counters.txDone ∧
    (adoptLastDone b s).line.counters.txRetry = s.line.counters.txRetry ∧
    (adoptLastDone b s).line.counters.lapses = s.line.counters.lapses ∧ (adoptLastDone b s).peer = s.peer ∧
    (adoptLastDone b s).ticket.stopFlag = s.ticket.stopFlag ∧ (adoptLastDone b s).sched.roster = s.sched.roster ∧
    (adoptLastDone b s).press = s.press ∧ (adoptLastDone b s).store.array = s.store.array ∧
    (adoptLastDone b s).store.queue = s.store.queue ∧ (adoptLastDone b s).store.write = s.store.write ∧
    (adoptLastDone b s).panel.mask = s.panel.mask ∧ (adoptLastDone b s).panel.stopn = s.panel.stopn ∧
    (adoptLastDone b s).panel.reply = s.panel.reply ∧
    (adoptLastDone b s).panel.restartPending = s.panel.restartPending ∧
    (adoptLastDone b s).line.cutOff = s.line.cutOff ∧ (adoptLastDone b s).line.listener = s.line.listener ∧
    (adoptLastDone b s).panel.transaction = s.panel.transaction := by
  simp only [adoptLastDone]; (repeat' split) <;> simp

@[simp] theorem setStop_frame (s : State) :
    (setStop s).pending = s.pending ∧ (setStop s).pins = s.pins ∧ (setStop s).resetRecord = s.resetRecord ∧
    (setStop s).cfg = s.cfg ∧ (setStop s).fresh = s.fresh ∧ (setStop s).line.state = s.line.state ∧
    (setStop s).line.attempt = s.line.attempt ∧ (setStop s).line.ownReturn = s.line.ownReturn ∧
    (setStop s).line.score = s.line.score ∧ (setStop s).line.withdrawTimer = s.line.withdrawTimer ∧
    (setStop s).line.q2 = s.line.q2 ∧ (setStop s).line.q3 = s.line.q3 ∧
    (setStop s).line.dropped = s.line.dropped ∧ (setStop s).line.counters = s.line.counters ∧
    (setStop s).peer = s.peer ∧ (setStop s).ticket.record = s.ticket.record ∧
    (setStop s).ticket.lastDone = s.ticket.lastDone ∧ (setStop s).ticket.pacing = s.ticket.pacing ∧
    (setStop s).sched.roster = s.sched.roster ∧ (setStop s).sched.cursor = s.sched.cursor ∧
    (setStop s).door = s.door ∧ (setStop s).press = s.press ∧ (setStop s).car.position = s.car.position ∧
    (setStop s).car.state = s.car.state ∧ (setStop s).car.action = s.car.action ∧
    (setStop s).car.served = s.car.served ∧ (setStop s).car.doorHeld = s.car.doorHeld ∧
    (setStop s).car.stallHeld = s.car.stallHeld ∧ (setStop s).car.faultDeclined = s.car.faultDeclined ∧
    (setStop s).car.actionLimit = s.car.actionLimit ∧ (setStop s).car.queue = s.car.queue ∧
    (setStop s).car.inProgress = s.car.inProgress ∧ (setStop s).car.direction = s.car.direction ∧
    (setStop s).car.quench = s.car.quench ∧ (setStop s).car.hotTravel = s.car.hotTravel ∧
    (setStop s).car.quenchTimer = s.car.quenchTimer ∧ (setStop s).car.drainTimer = s.car.drainTimer ∧
    (setStop s).car.marker = s.car.marker ∧ (setStop s).car.home = s.car.home ∧ (setStop s).store = s.store ∧
    (setStop s).panel = s.panel ∧ (setStop s).line.cutOff = s.line.cutOff ∧
    (setStop s).line.listener = s.line.listener ∧ (setStop s).car.actionServes = s.car.actionServes := by
  simp only [setStop]; (repeat' split) <;> simp

@[simp] theorem clearStop_frame (s : State) :
    (clearStop s).pending = s.pending ∧ (clearStop s).pins = s.pins ∧ (clearStop s).resetRecord = s.resetRecord ∧
    (clearStop s).cfg = s.cfg ∧ (clearStop s).fresh = s.fresh ∧ (clearStop s).line = s.line ∧
    (clearStop s).peer = s.peer ∧ (clearStop s).ticket.record = s.ticket.record ∧
    (clearStop s).ticket.lastDone = s.ticket.lastDone ∧ (clearStop s).ticket.claim = s.ticket.claim ∧
    (clearStop s).ticket.pacing = s.ticket.pacing ∧ (clearStop s).ticket.backoff = s.ticket.backoff ∧
    (clearStop s).sched = s.sched ∧ (clearStop s).door = s.door ∧ (clearStop s).press = s.press ∧
    (clearStop s).car.position = s.car.position ∧ (clearStop s).car.state = s.car.state ∧
    (clearStop s).car.action = s.car.action ∧ (clearStop s).car.served = s.car.served ∧
    (clearStop s).car.doorHeld = s.car.doorHeld ∧ (clearStop s).car.stallHeld = s.car.stallHeld ∧
    (clearStop s).car.faultDeclined = s.car.faultDeclined ∧ (clearStop s).car.actionLimit = s.car.actionLimit ∧
    (clearStop s).car.queue = s.car.queue ∧ (clearStop s).car.inProgress = s.car.inProgress ∧
    (clearStop s).car.direction = s.car.direction ∧ (clearStop s).car.quench = s.car.quench ∧
    (clearStop s).car.hotTravel = s.car.hotTravel ∧ (clearStop s).car.quenchTimer = s.car.quenchTimer ∧
    (clearStop s).car.drainTimer = s.car.drainTimer ∧ (clearStop s).car.marker = s.car.marker ∧
    (clearStop s).car.home = s.car.home ∧ (clearStop s).store = s.store ∧ (clearStop s).panel = s.panel ∧
    (clearStop s).car.actionServes = s.car.actionServes := by
  simp only [clearStop]; (repeat' split) <;> simp

@[simp] theorem carLost_frame (k : CarKind) (s : State) :
    (carLost k s).pending = s.pending ∧ (carLost k s).pins = s.pins ∧ (carLost k s).resetRecord = s.resetRecord ∧
    (carLost k s).cfg = s.cfg ∧ (carLost k s).fresh = s.fresh ∧ (carLost k s).line.state = s.line.state ∧
    (carLost k s).line.ownReturn = s.line.ownReturn ∧ (carLost k s).line.score = s.line.score ∧
    (carLost k s).line.withdrawTimer = s.line.withdrawTimer ∧
    (carLost k s).line.counters.rxGood = s.line.counters.rxGood ∧
    (carLost k s).line.counters.rxBad = s.line.counters.rxBad ∧
    (carLost k s).line.counters.txDone = s.line.counters.txDone ∧
    (carLost k s).line.counters.txRetry = s.line.counters.txRetry ∧
    (carLost k s).line.counters.lapses = s.line.counters.lapses ∧ (carLost k s).peer = s.peer ∧
    (carLost k s).ticket.lastDone = s.ticket.lastDone ∧ (carLost k s).ticket.stopFlag = s.ticket.stopFlag ∧
    (carLost k s).ticket.pacing = s.ticket.pacing ∧ (carLost k s).sched.roster = s.sched.roster ∧
    (carLost k s).sched.cursor = s.sched.cursor ∧ (carLost k s).door = s.door ∧ (carLost k s).press = s.press ∧
    (carLost k s).car = s.car ∧ (carLost k s).store = s.store ∧ (carLost k s).panel.mask = s.panel.mask ∧
    (carLost k s).panel.stopn = s.panel.stopn ∧ (carLost k s).panel.reply = s.panel.reply ∧
    (carLost k s).panel.restartPending = s.panel.restartPending ∧ (carLost k s).line.cutOff = s.line.cutOff ∧
    (carLost k s).line.listener = s.line.listener ∧ (carLost k s).panel.transaction = s.panel.transaction := by
  unfold carLost; (repeat' split) <;> simp

@[simp] theorem judgeServed_frame (src : Nat) (k : CarKind) (served : Option Ticket) (s : State) :
    (judgeServed src k served s).pending = s.pending ∧ (judgeServed src k served s).pins = s.pins ∧
    (judgeServed src k served s).resetRecord = s.resetRecord ∧ (judgeServed src k served s).cfg = s.cfg ∧
    (judgeServed src k served s).fresh = s.fresh ∧ (judgeServed src k served s).line.state = s.line.state ∧
    (judgeServed src k served s).line.ownReturn = s.line.ownReturn ∧
    (judgeServed src k served s).line.score = s.line.score ∧
    (judgeServed src k served s).line.withdrawTimer = s.line.withdrawTimer ∧
    (judgeServed src k served s).line.counters.rxGood = s.line.counters.rxGood ∧
    (judgeServed src k served s).line.counters.rxBad = s.line.counters.rxBad ∧
    (judgeServed src k served s).line.counters.txDone = s.line.counters.txDone ∧
    (judgeServed src k served s).line.counters.txRetry = s.line.counters.txRetry ∧
    (judgeServed src k served s).line.counters.lapses = s.line.counters.lapses ∧
    (judgeServed src k served s).peer = s.peer ∧
    (judgeServed src k served s).ticket.lastDone = s.ticket.lastDone ∧
    (judgeServed src k served s).ticket.stopFlag = s.ticket.stopFlag ∧
    (judgeServed src k served s).ticket.pacing = s.ticket.pacing ∧
    (judgeServed src k served s).sched.roster = s.sched.roster ∧
    (judgeServed src k served s).sched.cursor = s.sched.cursor ∧ (judgeServed src k served s).door = s.door ∧
    (judgeServed src k served s).press = s.press ∧ (judgeServed src k served s).car = s.car ∧
    (judgeServed src k served s).store = s.store ∧ (judgeServed src k served s).panel.mask = s.panel.mask ∧
    (judgeServed src k served s).panel.stopn = s.panel.stopn ∧
    (judgeServed src k served s).panel.reply = s.panel.reply ∧
    (judgeServed src k served s).panel.restartPending = s.panel.restartPending ∧
    (judgeServed src k served s).line.cutOff = s.line.cutOff ∧
    (judgeServed src k served s).line.listener = s.line.listener ∧
    (judgeServed src k served s).panel.transaction = s.panel.transaction := by
  unfold judgeServed; (repeat' split) <;> simp

@[simp] theorem judgeClaim_frame (s : State) :
    (judgeClaim s).pending = s.pending ∧ (judgeClaim s).pins = s.pins ∧
    (judgeClaim s).resetRecord = s.resetRecord ∧ (judgeClaim s).cfg = s.cfg ∧ (judgeClaim s).fresh = s.fresh ∧
    (judgeClaim s).line.state = s.line.state ∧ (judgeClaim s).line.ownReturn = s.line.ownReturn ∧
    (judgeClaim s).line.score = s.line.score ∧ (judgeClaim s).line.withdrawTimer = s.line.withdrawTimer ∧
    (judgeClaim s).line.counters.rxGood = s.line.counters.rxGood ∧
    (judgeClaim s).line.counters.rxBad = s.line.counters.rxBad ∧
    (judgeClaim s).line.counters.txDone = s.line.counters.txDone ∧
    (judgeClaim s).line.counters.txRetry = s.line.counters.txRetry ∧
    (judgeClaim s).line.counters.lapses = s.line.counters.lapses ∧ (judgeClaim s).peer = s.peer ∧
    (judgeClaim s).ticket.record = s.ticket.record ∧ (judgeClaim s).ticket.lastDone = s.ticket.lastDone ∧
    (judgeClaim s).ticket.stopFlag = s.ticket.stopFlag ∧ (judgeClaim s).ticket.pacing = s.ticket.pacing ∧
    (judgeClaim s).sched.roster = s.sched.roster ∧ (judgeClaim s).sched.cursor = s.sched.cursor ∧
    (judgeClaim s).door = s.door ∧ (judgeClaim s).press = s.press ∧ (judgeClaim s).car = s.car ∧
    (judgeClaim s).store = s.store ∧ (judgeClaim s).panel.mask = s.panel.mask ∧
    (judgeClaim s).panel.stopn = s.panel.stopn ∧ (judgeClaim s).panel.reply = s.panel.reply ∧
    (judgeClaim s).panel.restartPending = s.panel.restartPending ∧ (judgeClaim s).line.cutOff = s.line.cutOff ∧
    (judgeClaim s).line.listener = s.line.listener ∧ (judgeClaim s).panel.transaction = s.panel.transaction := by
  unfold judgeClaim; (repeat' split) <;> simp

end Sys2Proof.Machine
end

