-- ==== Sys2Proof/Laws/FrameEvents.lean ====
section
/-! SUPPORT. What each shared operation of the store unit, the end of an event and the line states leaves unchanged: one lemma each, all of it a simp set. -/

namespace Sys2Proof.Machine

@[simp] theorem startConfigWrite_frame (offset : Nat) (bytes : List Byte) (s : State) :
    (startConfigWrite offset bytes s).pending = s.pending ∧ (startConfigWrite offset bytes s).pins = s.pins ∧
    (startConfigWrite offset bytes s).resetRecord = s.resetRecord ∧
    (startConfigWrite offset bytes s).cfg = s.cfg ∧ (startConfigWrite offset bytes s).fresh = s.fresh ∧
    (startConfigWrite offset bytes s).line = s.line ∧ (startConfigWrite offset bytes s).peer = s.peer ∧
    (startConfigWrite offset bytes s).ticket = s.ticket ∧ (startConfigWrite offset bytes s).sched = s.sched ∧
    (startConfigWrite offset bytes s).door = s.door ∧ (startConfigWrite offset bytes s).press = s.press ∧
    (startConfigWrite offset bytes s).car = s.car ∧
    (startConfigWrite offset bytes s).store.array = s.store.array ∧
    (startConfigWrite offset bytes s).store.queue = s.store.queue ∧
    (startConfigWrite offset bytes s).store.wanted = s.store.wanted ∧
    (startConfigWrite offset bytes s).panel = s.panel := by
  unfold startConfigWrite; split <;> simp

@[simp] theorem offerOvenFrames_frame (b : List Oven) (a : List Oven) (s : State) :
    (offerOvenFrames b a s).pending = s.pending ∧ (offerOvenFrames b a s).pins = s.pins ∧
    (offerOvenFrames b a s).resetRecord = s.resetRecord ∧ (offerOvenFrames b a s).cfg = s.cfg ∧
    (offerOvenFrames b a s).fresh = s.fresh ∧ (offerOvenFrames b a s).line.state = s.line.state ∧
    (offerOvenFrames b a s).line.ownReturn = s.line.ownReturn ∧
    (offerOvenFrames b a s).line.score = s.line.score ∧
    (offerOvenFrames b a s).line.withdrawTimer = s.line.withdrawTimer ∧
    (offerOvenFrames b a s).line.counters.rxGood = s.line.counters.rxGood ∧
    (offerOvenFrames b a s).line.counters.rxBad = s.line.counters.rxBad ∧
    (offerOvenFrames b a s).line.counters.txDone = s.line.counters.txDone ∧
    (offerOvenFrames b a s).line.counters.txRetry = s.line.counters.txRetry ∧
    (offerOvenFrames b a s).line.counters.lapses = s.line.counters.lapses ∧
    (offerOvenFrames b a s).peer = s.peer ∧ (offerOvenFrames b a s).ticket.record = s.ticket.record ∧
    (offerOvenFrames b a s).ticket.lastDone = s.ticket.lastDone ∧
    (offerOvenFrames b a s).ticket.stopFlag = s.ticket.stopFlag ∧
    (offerOvenFrames b a s).ticket.pacing = s.ticket.pacing ∧
    (offerOvenFrames b a s).sched.roster = s.sched.roster ∧
    (offerOvenFrames b a s).sched.cursor = s.sched.cursor ∧ (offerOvenFrames b a s).door = s.door ∧
    (offerOvenFrames b a s).press = s.press ∧ (offerOvenFrames b a s).car = s.car ∧
    (offerOvenFrames b a s).store = s.store ∧ (offerOvenFrames b a s).panel.mask = s.panel.mask ∧
    (offerOvenFrames b a s).panel.stopn = s.panel.stopn ∧ (offerOvenFrames b a s).panel.reply = s.panel.reply ∧
    (offerOvenFrames b a s).panel.restartPending = s.panel.restartPending ∧
    (offerOvenFrames b a s).line.cutOff = s.line.cutOff ∧
    (offerOvenFrames b a s).line.listener = s.line.listener ∧
    (offerOvenFrames b a s).panel.transaction = s.panel.transaction := by
  exact ⟨
    by (induction b generalizing a s with | nil => cases a <;> rfl | cons x b ih => cases a with | nil => rfl | cons y a => unfold offerOvenFrames; rw [ih]; split <;> simp),
    by (induction b generalizing a s with | nil => cases a <;> rfl | cons x b ih => cases a with | nil => rfl | cons y a => unfold offerOvenFrames; rw [ih]; split <;> simp),
    by (induction b generalizing a s with | nil => cases a <;> rfl | cons x b ih => cases a with | nil => rfl | cons y a => unfold offerOvenFrames; rw [ih]; split <;> simp),
    by (induction b generalizing a s with | nil => cases a <;> rfl | cons x b ih => cases a with | nil => rfl | cons y a => unfold offerOvenFrames; rw [ih]; split <;> simp),
    by (induction b generalizing a s with | nil => cases a <;> rfl | cons x b ih => cases a with | nil => rfl | cons y a => unfold offerOvenFrames; rw [ih]; split <;> simp),
    by (induction b generalizing a s with | nil => cases a <;> rfl | cons x b ih => cases a with | nil => rfl | cons y a => unfold offerOvenFrames; rw [ih]; split <;> simp),
    by (induction b generalizing a s with | nil => cases a <;> rfl | cons x b ih => cases a with | nil => rfl | cons y a => unfold offerOvenFrames; rw [ih]; split <;> simp),
    by (induction b generalizing a s with | nil => cases a <;> rfl | cons x b ih => cases a with | nil => rfl | cons y a => unfold offerOvenFrames; rw [ih]; split <;> simp),
    by (induction b generalizing a s with | nil => cases a <;> rfl | cons x b ih => cases a with | nil => rfl | cons y a => unfold offerOvenFrames; rw [ih]; split <;> simp),
    by (induction b generalizing a s with | nil => cases a <;> rfl | cons x b ih => cases a with | nil => rfl | cons y a => unfold offerOvenFrames; rw [ih]; split <;> simp),
    by (induction b generalizing a s with | nil => cases a <;> rfl | cons x b ih => cases a with | nil => rfl | cons y a => unfold offerOvenFrames; rw [ih]; split <;> simp),
    by (induction b generalizing a s with | nil => cases a <;> rfl | cons x b ih => cases a with | nil => rfl | cons y a => unfold offerOvenFrames; rw [ih]; split <;> simp),
    by (induction b generalizing a s with | nil => cases a <;> rfl | cons x b ih => cases a with | nil => rfl | cons y a => unfold offerOvenFrames; rw [ih]; split <;> simp),
    by (induction b generalizing a s with | nil => cases a <;> rfl | cons x b ih => cases a with | nil => rfl | cons y a => unfold offerOvenFrames; rw [ih]; split <;> simp),
    by (induction b generalizing a s with | nil => cases a <;> rfl | cons x b ih => cases a with | nil => rfl | cons y a => unfold offerOvenFrames; rw [ih]; split <;> simp),
    by (induction b generalizing a s with | nil => cases a <;> rfl | cons x b ih => cases a with | nil => rfl | cons y a => unfold offerOvenFrames; rw [ih]; split <;> simp),
    by (induction b generalizing a s with | nil => cases a <;> rfl | cons x b ih => cases a with | nil => rfl | cons y a => unfold offerOvenFrames; rw [ih]; split <;> simp),
    by (induction b generalizing a s with | nil => cases a <;> rfl | cons x b ih => cases a with | nil => rfl | cons y a => unfold offerOvenFrames; rw [ih]; split <;> simp),
    by (induction b generalizing a s with | nil => cases a <;> rfl | cons x b ih => cases a with | nil => rfl | cons y a => unfold offerOvenFrames; rw [ih]; split <;> simp),
    by (induction b generalizing a s with | nil => cases a <;> rfl | cons x b ih => cases a with | nil => rfl | cons y a => unfold offerOvenFrames; rw [ih]; split <;> simp),
    by (induction b generalizing a s with | nil => cases a <;> rfl | cons x b ih => cases a with | nil => rfl | cons y a => unfold offerOvenFrames; rw [ih]; split <;> simp),
    by (induction b generalizing a s with | nil => cases a <;> rfl | cons x b ih => cases a with | nil => rfl | cons y a => unfold offerOvenFrames; rw [ih]; split <;> simp),
    by (induction b generalizing a s with | nil => cases a <;> rfl | cons x b ih => cases a with | nil => rfl | cons y a => unfold offerOvenFrames; rw [ih]; split <;> simp),
    by (induction b generalizing a s with | nil => cases a <;> rfl | cons x b ih => cases a with | nil => rfl | cons y a => unfold offerOvenFrames; rw [ih]; split <;> simp),
    by (induction b generalizing a s with | nil => cases a <;> rfl | cons x b ih => cases a with | nil => rfl | cons y a => unfold offerOvenFrames; rw [ih]; split <;> simp),
    by (induction b generalizing a s with | nil => cases a <;> rfl | cons x b ih => cases a with | nil => rfl | cons y a => unfold offerOvenFrames; rw [ih]; split <;> simp),
    by (induction b generalizing a s with | nil => cases a <;> rfl | cons x b ih => cases a with | nil => rfl | cons y a => unfold offerOvenFrames; rw [ih]; split <;> simp),
    by (induction b generalizing a s with | nil => cases a <;> rfl | cons x b ih => cases a with | nil => rfl | cons y a => unfold offerOvenFrames; rw [ih]; split <;> simp),
    by (induction b generalizing a s with | nil => cases a <;> rfl | cons x b ih => cases a with | nil => rfl | cons y a => unfold offerOvenFrames; rw [ih]; split <;> simp),
    by (induction b generalizing a s with | nil => cases a <;> rfl | cons x b ih => cases a with | nil => rfl | cons y a => unfold offerOvenFrames; rw [ih]; split <;> simp),
    by (induction b generalizing a s with | nil => cases a <;> rfl | cons x b ih => cases a with | nil => rfl | cons y a => unfold offerOvenFrames; rw [ih]; split <;> simp),
    by (induction b generalizing a s with | nil => cases a <;> rfl | cons x b ih => cases a with | nil => rfl | cons y a => unfold offerOvenFrames; rw [ih]; split <;> simp)⟩

@[simp] theorem enterDuplicate_frame (s : State) :
    (enterDuplicate s).pending = s.pending ∧ (enterDuplicate s).pins = s.pins ∧
    (enterDuplicate s).resetRecord = s.resetRecord ∧ (enterDuplicate s).cfg = s.cfg ∧
    (enterDuplicate s).fresh = s.fresh ∧ (enterDuplicate s).line.score = s.line.score ∧
    (enterDuplicate s).line.dropped = s.line.dropped ∧ (enterDuplicate s).line.counters = s.line.counters ∧
    (enterDuplicate s).peer.lineMinute = s.peer.lineMinute ∧
    (enterDuplicate s).peer.timeBaseMs = s.peer.timeBaseMs ∧ (enterDuplicate s).peer.choice = s.peer.choice ∧
    (enterDuplicate s).peer.heard = s.peer.heard ∧ (enterDuplicate s).ticket.record = s.ticket.record ∧
    (enterDuplicate s).ticket.lastDone = s.ticket.lastDone ∧
    (enterDuplicate s).ticket.stopFlag = s.ticket.stopFlag ∧ (enterDuplicate s).sched.roster = s.sched.roster ∧
    (enterDuplicate s).sched.cursor = s.sched.cursor ∧ (enterDuplicate s).door = s.door ∧
    (enterDuplicate s).press.scanTimer = s.press.scanTimer ∧
    (enterDuplicate s).press.converting = s.press.converting ∧
    (enterDuplicate s).press.channels = s.press.channels ∧ (enterDuplicate s).press.main = s.press.main ∧
    (enterDuplicate s).press.dampers = s.press.dampers ∧ (enterDuplicate s).press.driven = s.press.driven ∧
    (enterDuplicate s).press.boundary = s.press.boundary ∧ (enterDuplicate s).car.position = s.car.position ∧
    (enterDuplicate s).car.state = s.car.state ∧ (enterDuplicate s).car.action = s.car.action ∧
    (enterDuplicate s).car.served = s.car.served ∧ (enterDuplicate s).car.doorHeld = s.car.doorHeld ∧
    (enterDuplicate s).car.stallHeld = s.car.stallHeld ∧
    (enterDuplicate s).car.faultDeclined = s.car.faultDeclined ∧
    (enterDuplicate s).car.actionLimit = s.car.actionLimit ∧ (enterDuplicate s).car.queue = s.car.queue ∧
    (enterDuplicate s).car.inProgress = s.car.inProgress ∧ (enterDuplicate s).car.direction = s.car.direction ∧
    (enterDuplicate s).car.quench = s.car.quench ∧ (enterDuplicate s).car.hotTravel = s.car.hotTravel ∧
    (enterDuplicate s).car.quenchTimer = s.car.quenchTimer ∧
    (enterDuplicate s).car.drainTimer = s.car.drainTimer ∧ (enterDuplicate s).car.marker = s.car.marker ∧
    (enterDuplicate s).car.home = s.car.home ∧ (enterDuplicate s).store = s.store ∧
    (enterDuplicate s).panel.mask = s.panel.mask ∧ (enterDuplicate s).panel.stopn = s.panel.stopn ∧
    (enterDuplicate s).panel.reply = s.panel.reply ∧
    (enterDuplicate s).panel.restartPending = s.panel.restartPending ∧
    (enterDuplicate s).line.cutOff = s.line.cutOff ∧ (enterDuplicate s).line.listener = s.line.listener ∧
    (enterDuplicate s).car.actionServes = s.car.actionServes ∧ (enterDuplicate s).panel.transaction = s.panel.transaction := by
  simp [enterDuplicate]

@[simp] theorem departure_frame (n : Nat) (role : Option Role) (kind : Option CarKind) (s : State) :
    (departure n role kind s).pending = s.pending ∧ (departure n role kind s).pins = s.pins ∧
    (departure n role kind s).resetRecord = s.resetRecord ∧ (departure n role kind s).cfg = s.cfg ∧
    (departure n role kind s).fresh = s.fresh ∧ (departure n role kind s).line.state = s.line.state ∧
    (departure n role kind s).line.ownReturn = s.line.ownReturn ∧
    (departure n role kind s).line.score = s.line.score ∧
    (departure n role kind s).line.withdrawTimer = s.line.withdrawTimer ∧
    (departure n role kind s).line.counters.rxGood = s.line.counters.rxGood ∧
    (departure n role kind s).line.counters.rxBad = s.line.counters.rxBad ∧
    (departure n role kind s).line.counters.txDone = s.line.counters.txDone ∧
    (departure n role kind s).line.counters.txRetry = s.line.counters.txRetry ∧
    (departure n role kind s).line.counters.lapses = s.line.counters.lapses ∧
    (departure n role kind s).peer = s.peer ∧ (departure n role kind s).ticket.lastDone = s.ticket.lastDone ∧
    (departure n role kind s).ticket.stopFlag = s.ticket.stopFlag ∧
    (departure n role kind s).ticket.pacing = s.ticket.pacing ∧
    (departure n role kind s).sched.cursor = s.sched.cursor ∧ (departure n role kind s).press = s.press ∧
    (departure n role kind s).store.array = s.store.array ∧
    (departure n role kind s).store.queue = s.store.queue ∧
    (departure n role kind s).store.write = s.store.write ∧ (departure n role kind s).panel.mask = s.panel.mask ∧
    (departure n role kind s).panel.stopn = s.panel.stopn ∧
    (departure n role kind s).panel.reply = s.panel.reply ∧
    (departure n role kind s).panel.restartPending = s.panel.restartPending ∧
    (departure n role kind s).line.cutOff = s.line.cutOff ∧
    (departure n role kind s).line.listener = s.line.listener ∧
    (departure n role kind s).panel.transaction = s.panel.transaction := by
  simp only [departure]; (repeat' split) <;> simp

@[simp] theorem judgePush_frame (s : State) :
    (judgePush s).pending = s.pending ∧ (judgePush s).pins = s.pins ∧ (judgePush s).resetRecord = s.resetRecord ∧
    (judgePush s).cfg = s.cfg ∧ (judgePush s).fresh = s.fresh ∧ (judgePush s).line.state = s.line.state ∧
    (judgePush s).line.ownReturn = s.line.ownReturn ∧ (judgePush s).line.score = s.line.score ∧
    (judgePush s).line.withdrawTimer = s.line.withdrawTimer ∧
    (judgePush s).line.counters.rxGood = s.line.counters.rxGood ∧
    (judgePush s).line.counters.rxBad = s.line.counters.rxBad ∧
    (judgePush s).line.counters.txDone = s.line.counters.txDone ∧
    (judgePush s).line.counters.txRetry = s.line.counters.txRetry ∧
    (judgePush s).line.counters.lapses = s.line.counters.lapses ∧ (judgePush s).peer = s.peer ∧
    (judgePush s).ticket.record = s.ticket.record ∧ (judgePush s).ticket.lastDone = s.ticket.lastDone ∧
    (judgePush s).ticket.stopFlag = s.ticket.stopFlag ∧ (judgePush s).ticket.pacing = s.ticket.pacing ∧
    (judgePush s).sched.roster = s.sched.roster ∧ (judgePush s).sched.cursor = s.sched.cursor ∧
    (judgePush s).door = s.door ∧ (judgePush s).press = s.press ∧ (judgePush s).car = s.car ∧
    (judgePush s).store = s.store ∧ (judgePush s).panel.mask = s.panel.mask ∧
    (judgePush s).panel.stopn = s.panel.stopn ∧ (judgePush s).panel.reply = s.panel.reply ∧
    (judgePush s).panel.restartPending = s.panel.restartPending ∧ (judgePush s).line.cutOff = s.line.cutOff ∧
    (judgePush s).line.listener = s.line.listener ∧ (judgePush s).panel.transaction = s.panel.transaction := by
  unfold judgePush
  (repeat' split) <;> (try dsimp only) <;> (repeat' split) <;> simp [withdrawFrame] <;> split <;> (try split) <;> simp

@[simp] theorem startNextWrite_frame (s : State) :
    (startNextWrite s).pending = s.pending ∧ (startNextWrite s).pins = s.pins ∧
    (startNextWrite s).resetRecord = s.resetRecord ∧ (startNextWrite s).cfg = s.cfg ∧
    (startNextWrite s).fresh = s.fresh ∧ (startNextWrite s).line = s.line ∧ (startNextWrite s).peer = s.peer ∧
    (startNextWrite s).ticket = s.ticket ∧ (startNextWrite s).sched.roster = s.sched.roster ∧
    (startNextWrite s).sched.cursor = s.sched.cursor ∧ (startNextWrite s).door = s.door ∧
    (startNextWrite s).press = s.press ∧ (startNextWrite s).car = s.car ∧
    (startNextWrite s).store.array = s.store.array ∧ (startNextWrite s).store.wanted = s.store.wanted ∧
    (startNextWrite s).panel = s.panel := by
  unfold startNextWrite
  split
  · simp only [capture]
    (repeat' split) <;> simp
  · simp

@[simp] theorem flushStore_frame (s : State) :
    (flushStore s).pending = s.pending ∧ (flushStore s).pins = s.pins ∧
    (flushStore s).resetRecord = s.resetRecord ∧ (flushStore s).cfg = s.cfg ∧ (flushStore s).fresh = s.fresh ∧
    (flushStore s).line = s.line ∧ (flushStore s).peer = s.peer ∧ (flushStore s).ticket = s.ticket ∧
    (flushStore s).sched.roster = s.sched.roster ∧ (flushStore s).sched.cursor = s.sched.cursor ∧
    (flushStore s).door = s.door ∧ (flushStore s).press = s.press ∧ (flushStore s).car = s.car ∧
    (flushStore s).store.array = s.store.array ∧ (flushStore s).panel = s.panel := by
  simp [flushStore]

@[simp] theorem readBack_frame (isMatch : Bool) (s : State) :
    (readBack isMatch s).pending = s.pending ∧ (readBack isMatch s).pins = s.pins ∧
    (readBack isMatch s).resetRecord = s.resetRecord ∧ (readBack isMatch s).cfg = s.cfg ∧
    (readBack isMatch s).line = s.line ∧ (readBack isMatch s).peer = s.peer ∧
    (readBack isMatch s).ticket = s.ticket ∧ (readBack isMatch s).sched.roster = s.sched.roster ∧
    (readBack isMatch s).sched.cursor = s.sched.cursor ∧ (readBack isMatch s).door = s.door ∧
    (readBack isMatch s).press = s.press ∧ (readBack isMatch s).car = s.car ∧
    (readBack isMatch s).store.wanted = s.store.wanted ∧ (readBack isMatch s).panel.mask = s.panel.mask ∧
    (readBack isMatch s).panel.stopn = s.panel.stopn ∧ (readBack isMatch s).panel.reply = s.panel.reply ∧
    (readBack isMatch s).panel.restartPending = s.panel.restartPending ∧
    (readBack isMatch s).panel.transaction = s.panel.transaction := by
  unfold readBack; (repeat' split) <;> simp

@[simp] theorem finishSection_frame (before : List Oven) (s : State) :
    (finishSection before s).pending = s.pending ∧ (finishSection before s).pins = s.pins ∧
    (finishSection before s).resetRecord = s.resetRecord ∧ (finishSection before s).cfg = s.cfg ∧
    (finishSection before s).fresh = s.fresh ∧ (finishSection before s).line.state = s.line.state ∧
    (finishSection before s).line.ownReturn = s.line.ownReturn ∧
    (finishSection before s).line.score = s.line.score ∧
    (finishSection before s).line.withdrawTimer = s.line.withdrawTimer ∧
    (finishSection before s).line.counters.rxGood = s.line.counters.rxGood ∧
    (finishSection before s).line.counters.rxBad = s.line.counters.rxBad ∧
    (finishSection before s).line.counters.txDone = s.line.counters.txDone ∧
    (finishSection before s).line.counters.txRetry = s.line.counters.txRetry ∧
    (finishSection before s).line.counters.lapses = s.line.counters.lapses ∧
    (finishSection before s).peer = s.peer ∧ (finishSection before s).ticket.record = s.ticket.record ∧
    (finishSection before s).ticket.lastDone = s.ticket.lastDone ∧
    (finishSection before s).ticket.stopFlag = s.ticket.stopFlag ∧
    (finishSection before s).ticket.pacing = s.ticket.pacing ∧
    (finishSection before s).sched.cursor = s.sched.cursor ∧ (finishSection before s).door = s.door ∧
    (finishSection before s).press.scanTimer = s.press.scanTimer ∧
    (finishSection before s).press.converting = s.press.converting ∧
    (finishSection before s).press.channels = s.press.channels ∧
    (finishSection before s).press.main = s.press.main ∧ (finishSection before s).press.driven = s.press.driven ∧
    (finishSection before s).press.boundary = s.press.boundary ∧
    (finishSection before s).press.entries = s.press.entries ∧
    (finishSection before s).press.listHold = s.press.listHold ∧ (finishSection before s).car = s.car ∧
    (finishSection before s).store.array = s.store.array ∧ (finishSection before s).panel.mask = s.panel.mask ∧
    (finishSection before s).panel.stopn = s.panel.stopn ∧ (finishSection before s).panel.reply = s.panel.reply ∧
    (finishSection before s).panel.restartPending = s.panel.restartPending ∧
    (finishSection before s).line.cutOff = s.line.cutOff ∧
    (finishSection before s).line.listener = s.line.listener ∧
    (finishSection before s).panel.transaction = s.panel.transaction := by
  simp [finishSection]

@[simp] theorem finishCar_frame (s0 : State) (s : State) :
    (finishCar s0 s).pending = s.pending ∧ (finishCar s0 s).pins = s.pins ∧
    (finishCar s0 s).resetRecord = s.resetRecord ∧ (finishCar s0 s).cfg = s.cfg ∧
    (finishCar s0 s).fresh = s.fresh ∧ (finishCar s0 s).line.state = s.line.state ∧
    (finishCar s0 s).line.ownReturn = s.line.ownReturn ∧ (finishCar s0 s).line.score = s.line.score ∧
    (finishCar s0 s).line.withdrawTimer = s.line.withdrawTimer ∧
    (finishCar s0 s).line.counters.rxGood = s.line.counters.rxGood ∧
    (finishCar s0 s).line.counters.rxBad = s.line.counters.rxBad ∧
    (finishCar s0 s).line.counters.txDone = s.line.counters.txDone ∧
    (finishCar s0 s).line.counters.txRetry = s.line.counters.txRetry ∧
    (finishCar s0 s).line.counters.lapses = s.line.counters.lapses ∧ (finishCar s0 s).peer = s.peer ∧
    (finishCar s0 s).ticket.record = s.ticket.record ∧ (finishCar s0 s).ticket.lastDone = s.ticket.lastDone ∧
    (finishCar s0 s).ticket.stopFlag = s.ticket.stopFlag ∧ (finishCar s0 s).ticket.pacing = s.ticket.pacing ∧
    (finishCar s0 s).sched.roster = s.sched.roster ∧ (finishCar s0 s).sched.cursor = s.sched.cursor ∧
    (finishCar s0 s).door = s.door ∧ (finishCar s0 s).press = s.press ∧
    (finishCar s0 s).store.array = s.store.array ∧ (finishCar s0 s).panel.mask = s.panel.mask ∧
    (finishCar s0 s).panel.stopn = s.panel.stopn ∧ (finishCar s0 s).panel.reply = s.panel.reply ∧
    (finishCar s0 s).panel.restartPending = s.panel.restartPending ∧
    (finishCar s0 s).line.cutOff = s.line.cutOff ∧ (finishCar s0 s).line.listener = s.line.listener ∧
    (finishCar s0 s).panel.transaction = s.panel.transaction := by
  simp [finishCar]

@[simp] theorem finish_frame (s0 : State) (s : State) :
    (finish s0 s).pending = s.pending ∧ (finish s0 s).pins = s.pins ∧ (finish s0 s).resetRecord = s.resetRecord ∧
    (finish s0 s).cfg = s.cfg ∧ (finish s0 s).fresh = s.fresh ∧ (finish s0 s).line.state = s.line.state ∧
    (finish s0 s).line.ownReturn = s.line.ownReturn ∧ (finish s0 s).line.score = s.line.score ∧
    (finish s0 s).line.withdrawTimer = s.line.withdrawTimer ∧
    (finish s0 s).line.counters.rxGood = s.line.counters.rxGood ∧
    (finish s0 s).line.counters.rxBad = s.line.counters.rxBad ∧
    (finish s0 s).line.counters.txDone = s.line.counters.txDone ∧
    (finish s0 s).line.counters.txRetry = s.line.counters.txRetry ∧
    (finish s0 s).line.counters.lapses = s.line.counters.lapses ∧ (finish s0 s).peer = s.peer ∧
    (finish s0 s).ticket.record = s.ticket.record ∧ (finish s0 s).ticket.lastDone = s.ticket.lastDone ∧
    (finish s0 s).ticket.stopFlag = s.ticket.stopFlag ∧ (finish s0 s).ticket.pacing = s.ticket.pacing ∧
    (finish s0 s).sched.cursor = s.sched.cursor ∧ (finish s0 s).door = s.door ∧
    (finish s0 s).press.scanTimer = s.press.scanTimer ∧ (finish s0 s).press.converting = s.press.converting ∧
    (finish s0 s).press.channels = s.press.channels ∧ (finish s0 s).press.main = s.press.main ∧
    (finish s0 s).press.driven = s.press.driven ∧ (finish s0 s).press.boundary = s.press.boundary ∧
    (finish s0 s).press.entries = s.press.entries ∧ (finish s0 s).press.listHold = s.press.listHold ∧
    (finish s0 s).store.array = s.store.array ∧ (finish s0 s).panel.mask = s.panel.mask ∧
    (finish s0 s).panel.stopn = s.panel.stopn ∧ (finish s0 s).panel.reply = s.panel.reply ∧
    (finish s0 s).panel.restartPending = s.panel.restartPending ∧ (finish s0 s).line.cutOff = s.line.cutOff ∧
    (finish s0 s).line.listener = s.line.listener ∧ (finish s0 s).panel.transaction = s.panel.transaction := by
  unfold finish; (repeat' split) <;> simp

@[simp] theorem ownerWithdrawn_frame (s : State) :
    (ownerWithdrawn s).pending = s.pending ∧ (ownerWithdrawn s).pins = s.pins ∧
    (ownerWithdrawn s).resetRecord = s.resetRecord ∧ (ownerWithdrawn s).cfg = s.cfg ∧
    (ownerWithdrawn s).fresh = s.fresh ∧ (ownerWithdrawn s).line.state = s.line.state ∧
    (ownerWithdrawn s).line.ownReturn = s.line.ownReturn ∧ (ownerWithdrawn s).line.score = s.line.score ∧
    (ownerWithdrawn s).line.withdrawTimer = s.line.withdrawTimer ∧
    (ownerWithdrawn s).line.counters.rxGood = s.line.counters.rxGood ∧
    (ownerWithdrawn s).line.counters.rxBad = s.line.counters.rxBad ∧
    (ownerWithdrawn s).line.counters.txDone = s.line.counters.txDone ∧
    (ownerWithdrawn s).line.counters.txRetry = s.line.counters.txRetry ∧
    (ownerWithdrawn s).line.counters.lapses = s.line.counters.lapses ∧ (ownerWithdrawn s).peer = s.peer ∧
    (ownerWithdrawn s).ticket.lastDone = s.ticket.lastDone ∧
    (ownerWithdrawn s).ticket.stopFlag = s.ticket.stopFlag ∧ (ownerWithdrawn s).ticket.pacing = s.ticket.pacing ∧
    (ownerWithdrawn s).sched.roster = s.sched.roster ∧ (ownerWithdrawn s).sched.cursor = s.sched.cursor ∧
    (ownerWithdrawn s).press = s.press ∧ (ownerWithdrawn s).store.array = s.store.array ∧
    (ownerWithdrawn s).store.queue = s.store.queue ∧ (ownerWithdrawn s).store.write = s.store.write ∧
    (ownerWithdrawn s).panel.mask = s.panel.mask ∧ (ownerWithdrawn s).panel.stopn = s.panel.stopn ∧
    (ownerWithdrawn s).panel.reply = s.panel.reply ∧
    (ownerWithdrawn s).panel.restartPending = s.panel.restartPending ∧
    (ownerWithdrawn s).line.cutOff = s.line.cutOff ∧ (ownerWithdrawn s).line.listener = s.line.listener ∧
    (ownerWithdrawn s).panel.transaction = s.panel.transaction := by
  unfold ownerWithdrawn; (repeat' split) <;> (try dsimp only) <;> (repeat' split) <;> simp

@[simp] theorem enterWithdrawn_frame (s : State) :
    (enterWithdrawn s).pending = s.pending ∧ (enterWithdrawn s).pins = s.pins ∧
    (enterWithdrawn s).resetRecord = s.resetRecord ∧ (enterWithdrawn s).cfg = s.cfg ∧
    (enterWithdrawn s).fresh = s.fresh ∧ (enterWithdrawn s).line.ownReturn = s.line.ownReturn ∧
    (enterWithdrawn s).line.score = s.line.score ∧
    (enterWithdrawn s).line.counters.rxGood = s.line.counters.rxGood ∧
    (enterWithdrawn s).line.counters.rxBad = s.line.counters.rxBad ∧
    (enterWithdrawn s).line.counters.txDone = s.line.counters.txDone ∧
    (enterWithdrawn s).line.counters.txRetry = s.line.counters.txRetry ∧
    (enterWithdrawn s).line.counters.lapses = s.line.counters.lapses ∧
    (enterWithdrawn s).peer.table = s.peer.table ∧ (enterWithdrawn s).peer.lineMinute = s.peer.lineMinute ∧
    (enterWithdrawn s).peer.timeBaseMs = s.peer.timeBaseMs ∧
    (enterWithdrawn s).peer.joinTimer = s.peer.joinTimer ∧ (enterWithdrawn s).peer.startJoin = s.peer.startJoin ∧
    (enterWithdrawn s).peer.choice = s.peer.choice ∧ (enterWithdrawn s).peer.heard = s.peer.heard ∧
    (enterWithdrawn s).ticket.lastDone = s.ticket.lastDone ∧
    (enterWithdrawn s).ticket.stopFlag = s.ticket.stopFlag ∧ (enterWithdrawn s).ticket.pacing = s.ticket.pacing ∧
    (enterWithdrawn s).sched.roster = s.sched.roster ∧ (enterWithdrawn s).sched.cursor = s.sched.cursor ∧
    (enterWithdrawn s).press = s.press ∧ (enterWithdrawn s).store.array = s.store.array ∧
    (enterWithdrawn s).store.queue = s.store.queue ∧ (enterWithdrawn s).store.write = s.store.write ∧
    (enterWithdrawn s).panel.mask = s.panel.mask ∧ (enterWithdrawn s).panel.stopn = s.panel.stopn ∧
    (enterWithdrawn s).panel.reply = s.panel.reply ∧
    (enterWithdrawn s).panel.restartPending = s.panel.restartPending ∧
    (enterWithdrawn s).line.cutOff = s.line.cutOff ∧ (enterWithdrawn s).line.listener = s.line.listener ∧
    (enterWithdrawn s).panel.transaction = s.panel.transaction := by
  simp [enterWithdrawn]

@[simp] theorem enterJoining_frame (startJoin : Bool) (s : State) :
    (enterJoining startJoin s).pending = s.pending ∧ (enterJoining startJoin s).pins = s.pins ∧
    (enterJoining startJoin s).resetRecord = s.resetRecord ∧ (enterJoining startJoin s).cfg = s.cfg ∧
    (enterJoining startJoin s).fresh = s.fresh ∧ (enterJoining startJoin s).line.attempt = s.line.attempt ∧
    (enterJoining startJoin s).line.ownReturn = s.line.ownReturn ∧
    (enterJoining startJoin s).line.score = s.line.score ∧
    (enterJoining startJoin s).line.withdrawTimer = s.line.withdrawTimer ∧
    (enterJoining startJoin s).line.q0 = s.line.q0 ∧ (enterJoining startJoin s).line.q1 = s.line.q1 ∧
    (enterJoining startJoin s).line.q2 = s.line.q2 ∧ (enterJoining startJoin s).line.q3 = s.line.q3 ∧
    (enterJoining startJoin s).line.dropped = s.line.dropped ∧
    (enterJoining startJoin s).line.counters = s.line.counters ∧
    (enterJoining startJoin s).peer.table = s.peer.table ∧
    (enterJoining startJoin s).peer.lineMinute = s.peer.lineMinute ∧
    (enterJoining startJoin s).peer.timeBaseMs = s.peer.timeBaseMs ∧
    (enterJoining startJoin s).peer.standingTimer = s.peer.standingTimer ∧
    (enterJoining startJoin s).ticket = s.ticket ∧ (enterJoining startJoin s).sched = s.sched ∧
    (enterJoining startJoin s).door = s.door ∧ (enterJoining startJoin s).press.scanTimer = s.press.scanTimer ∧
    (enterJoining startJoin s).press.converting = s.press.converting ∧
    (enterJoining startJoin s).press.channels = s.press.channels ∧
    (enterJoining startJoin s).press.main = s.press.main ∧
    (enterJoining startJoin s).press.dampers = s.press.dampers ∧
    (enterJoining startJoin s).press.driven = s.press.driven ∧
    (enterJoining startJoin s).press.boundary = s.press.boundary ∧
    (enterJoining startJoin s).press.entries = s.press.entries ∧ (enterJoining startJoin s).car = s.car ∧
    (enterJoining startJoin s).store = s.store ∧ (enterJoining startJoin s).panel = s.panel ∧
    (enterJoining startJoin s).line.cutOff = s.line.cutOff ∧
    (enterJoining startJoin s).line.listener = s.line.listener := by
  simp only [enterJoining]; split <;> simp

@[simp] theorem offerStanding_frame (s : State) :
    (offerStanding s).pending = s.pending ∧ (offerStanding s).pins = s.pins ∧
    (offerStanding s).resetRecord = s.resetRecord ∧ (offerStanding s).cfg = s.cfg ∧
    (offerStanding s).fresh = s.fresh ∧ (offerStanding s).line.state = s.line.state ∧
    (offerStanding s).line.ownReturn = s.line.ownReturn ∧ (offerStanding s).line.score = s.line.score ∧
    (offerStanding s).line.withdrawTimer = s.line.withdrawTimer ∧
    (offerStanding s).line.counters.rxGood = s.line.counters.rxGood ∧
    (offerStanding s).line.counters.rxBad = s.line.counters.rxBad ∧
    (offerStanding s).line.counters.txDone = s.line.counters.txDone ∧
    (offerStanding s).line.counters.txRetry = s.line.counters.txRetry ∧
    (offerStanding s).line.counters.lapses = s.line.counters.lapses ∧
    (offerStanding s).peer.table = s.peer.table ∧ (offerStanding s).peer.lineMinute = s.peer.lineMinute ∧
    (offerStanding s).peer.timeBaseMs = s.peer.timeBaseMs ∧ (offerStanding s).peer.joinTimer = s.peer.joinTimer ∧
    (offerStanding s).peer.startJoin = s.peer.startJoin ∧ (offerStanding s).peer.choice = s.peer.choice ∧
    (offerStanding s).peer.heard = s.peer.heard ∧ (offerStanding s).ticket.record = s.ticket.record ∧
    (offerStanding s).ticket.lastDone = s.ticket.lastDone ∧
    (offerStanding s).ticket.stopFlag = s.ticket.stopFlag ∧ (offerStanding s).ticket.pacing = s.ticket.pacing ∧
    (offerStanding s).sched.roster = s.sched.roster ∧ (offerStanding s).sched.cursor = s.sched.cursor ∧
    (offerStanding s).door = s.door ∧ (offerStanding s).press = s.press ∧ (offerStanding s).car = s.car ∧
    (offerStanding s).store = s.store ∧ (offerStanding s).panel.mask = s.panel.mask ∧
    (offerStanding s).panel.stopn = s.panel.stopn ∧ (offerStanding s).panel.reply = s.panel.reply ∧
    (offerStanding s).panel.restartPending = s.panel.restartPending ∧
    (offerStanding s).line.cutOff = s.line.cutOff ∧ (offerStanding s).line.listener = s.line.listener ∧
    (offerStanding s).panel.transaction = s.panel.transaction := by
  simp [offerStanding]

@[simp] theorem enterActive_frame (s : State) :
    (enterActive s).pending = s.pending ∧ (enterActive s).pins = s.pins ∧
    (enterActive s).resetRecord = s.resetRecord ∧ (enterActive s).cfg = s.cfg ∧ (enterActive s).fresh = s.fresh ∧
    (enterActive s).line.ownReturn = s.line.ownReturn ∧ (enterActive s).line.score = s.line.score ∧
    (enterActive s).line.withdrawTimer = s.line.withdrawTimer ∧
    (enterActive s).line.counters.rxGood = s.line.counters.rxGood ∧
    (enterActive s).line.counters.rxBad = s.line.counters.rxBad ∧
    (enterActive s).line.counters.txDone = s.line.counters.txDone ∧
    (enterActive s).line.counters.txRetry = s.line.counters.txRetry ∧
    (enterActive s).line.counters.lapses = s.line.counters.lapses ∧ (enterActive s).peer.table = s.peer.table ∧
    (enterActive s).peer.lineMinute = s.peer.lineMinute ∧ (enterActive s).peer.timeBaseMs = s.peer.timeBaseMs ∧
    (enterActive s).peer.joinTimer = s.peer.joinTimer ∧ (enterActive s).peer.startJoin = s.peer.startJoin ∧
    (enterActive s).peer.choice = s.peer.choice ∧ (enterActive s).peer.heard = s.peer.heard ∧
    (enterActive s).ticket.record = s.ticket.record ∧ (enterActive s).ticket.lastDone = s.ticket.lastDone ∧
    (enterActive s).ticket.stopFlag = s.ticket.stopFlag ∧ (enterActive s).ticket.pacing = s.ticket.pacing ∧
    (enterActive s).sched.roster = s.sched.roster ∧ (enterActive s).sched.cursor = s.sched.cursor ∧
    (enterActive s).door = s.door ∧ (enterActive s).press = s.press ∧
    (enterActive s).car.position = s.car.position ∧ (enterActive s).car.action = s.car.action ∧
    (enterActive s).car.served = s.car.served ∧ (enterActive s).car.doorHeld = s.car.doorHeld ∧
    (enterActive s).car.stallHeld = s.car.stallHeld ∧ (enterActive s).car.faultDeclined = s.car.faultDeclined ∧
    (enterActive s).car.markerLimit = s.car.markerLimit ∧ (enterActive s).car.actionLimit = s.car.actionLimit ∧
    (enterActive s).car.inProgress = s.car.inProgress ∧ (enterActive s).car.direction = s.car.direction ∧
    (enterActive s).car.quench = s.car.quench ∧ (enterActive s).car.hotTravel = s.car.hotTravel ∧
    (enterActive s).car.quenchTimer = s.car.quenchTimer ∧ (enterActive s).car.drainTimer = s.car.drainTimer ∧
    (enterActive s).car.marker = s.car.marker ∧ (enterActive s).car.home = s.car.home ∧
    (enterActive s).store = s.store ∧ (enterActive s).panel.mask = s.panel.mask ∧
    (enterActive s).panel.stopn = s.panel.stopn ∧ (enterActive s).panel.reply = s.panel.reply ∧
    (enterActive s).panel.restartPending = s.panel.restartPending ∧ (enterActive s).line.cutOff = s.line.cutOff ∧
    (enterActive s).line.listener = s.line.listener ∧ (enterActive s).car.actionServes = s.car.actionServes ∧
    (enterActive s).panel.transaction = s.panel.transaction := by
  simp only [enterActive]; split <;> simp

@[simp] theorem adoptCursor_frame (c : JoinChoice) (s : State) :
    (adoptCursor c s).pending = s.pending ∧ (adoptCursor c s).pins = s.pins ∧
    (adoptCursor c s).resetRecord = s.resetRecord ∧ (adoptCursor c s).cfg = s.cfg ∧
    (adoptCursor c s).fresh = s.fresh ∧ (adoptCursor c s).line = s.line ∧ (adoptCursor c s).peer = s.peer ∧
    (adoptCursor c s).ticket = s.ticket ∧ (adoptCursor c s).sched.ovens = s.sched.ovens ∧
    (adoptCursor c s).sched.roster = s.sched.roster ∧ (adoptCursor c s).door = s.door ∧
    (adoptCursor c s).press = s.press ∧ (adoptCursor c s).car = s.car ∧
    (adoptCursor c s).store.array = s.store.array ∧ (adoptCursor c s).store.queue = s.store.queue ∧
    (adoptCursor c s).store.write = s.store.write ∧ (adoptCursor c s).panel = s.panel := by
  unfold adoptCursor; split <;> simp

@[simp] theorem adoptRecord_frame (c : StandingCommon) (s : State) :
    (adoptRecord c s).pending = s.pending ∧ (adoptRecord c s).pins = s.pins ∧
    (adoptRecord c s).resetRecord = s.resetRecord ∧ (adoptRecord c s).cfg = s.cfg ∧
    (adoptRecord c s).fresh = s.fresh ∧ (adoptRecord c s).line.state = s.line.state ∧
    (adoptRecord c s).line.ownReturn = s.line.ownReturn ∧ (adoptRecord c s).line.score = s.line.score ∧
    (adoptRecord c s).line.withdrawTimer = s.line.withdrawTimer ∧
    (adoptRecord c s).line.counters.rxGood = s.line.counters.rxGood ∧
    (adoptRecord c s).line.counters.rxBad = s.line.counters.rxBad ∧
    (adoptRecord c s).line.counters.txDone = s.line.counters.txDone ∧
    (adoptRecord c s).line.counters.txRetry = s.line.counters.txRetry ∧
    (adoptRecord c s).line.counters.lapses = s.line.counters.lapses ∧ (adoptRecord c s).peer = s.peer ∧
    (adoptRecord c s).ticket.lastDone = s.ticket.lastDone ∧
    (adoptRecord c s).ticket.stopFlag = s.ticket.stopFlag ∧ (adoptRecord c s).ticket.pacing = s.ticket.pacing ∧
    (adoptRecord c s).sched.roster = s.sched.roster ∧ (adoptRecord c s).sched.cursor = s.sched.cursor ∧
    (adoptRecord c s).press = s.press ∧ (adoptRecord c s).car.position = s.car.position ∧
    (adoptRecord c s).car.state = s.car.state ∧ (adoptRecord c s).car.action = s.car.action ∧
    (adoptRecord c s).car.doorHeld = s.car.doorHeld ∧ (adoptRecord c s).car.faultDeclined = s.car.faultDeclined ∧
    (adoptRecord c s).car.markerLimit = s.car.markerLimit ∧
    (adoptRecord c s).car.actionLimit = s.car.actionLimit ∧ (adoptRecord c s).car.queue = s.car.queue ∧
    (adoptRecord c s).car.inProgress = s.car.inProgress ∧ (adoptRecord c s).car.direction = s.car.direction ∧
    (adoptRecord c s).car.quench = s.car.quench ∧ (adoptRecord c s).car.hotTravel = s.car.hotTravel ∧
    (adoptRecord c s).car.quenchTimer = s.car.quenchTimer ∧ (adoptRecord c s).car.drainTimer = s.car.drainTimer ∧
    (adoptRecord c s).car.marker = s.car.marker ∧ (adoptRecord c s).car.home = s.car.home ∧
    (adoptRecord c s).store.array = s.store.array ∧ (adoptRecord c s).store.queue = s.store.queue ∧
    (adoptRecord c s).store.write = s.store.write ∧ (adoptRecord c s).panel.mask = s.panel.mask ∧
    (adoptRecord c s).panel.stopn = s.panel.stopn ∧ (adoptRecord c s).panel.reply = s.panel.reply ∧
    (adoptRecord c s).panel.restartPending = s.panel.restartPending ∧
    (adoptRecord c s).panel.transaction = s.panel.transaction ∧ (adoptRecord c s).line.cutOff = s.line.cutOff ∧
    (adoptRecord c s).line.listener = s.line.listener := by
  simp only [adoptRecord]; (repeat' split) <;> simp

@[simp] theorem adoptChoice_frame (s : State) :
    (adoptChoice s).pending = s.pending ∧ (adoptChoice s).pins = s.pins ∧
    (adoptChoice s).resetRecord = s.resetRecord ∧ (adoptChoice s).cfg = s.cfg ∧ (adoptChoice s).fresh = s.fresh ∧
    (adoptChoice s).line.state = s.line.state ∧ (adoptChoice s).line.ownReturn = s.line.ownReturn ∧
    (adoptChoice s).line.score = s.line.score ∧ (adoptChoice s).line.withdrawTimer = s.line.withdrawTimer ∧
    (adoptChoice s).line.counters.rxGood = s.line.counters.rxGood ∧
    (adoptChoice s).line.counters.rxBad = s.line.counters.rxBad ∧
    (adoptChoice s).line.counters.txDone = s.line.counters.txDone ∧
    (adoptChoice s).line.counters.txRetry = s.line.counters.txRetry ∧
    (adoptChoice s).line.counters.lapses = s.line.counters.lapses ∧ (adoptChoice s).peer = s.peer ∧
    (adoptChoice s).ticket.stopFlag = s.ticket.stopFlag ∧ (adoptChoice s).sched.roster = s.sched.roster ∧
    (adoptChoice s).press = s.press ∧ (adoptChoice s).store.array = s.store.array ∧
    (adoptChoice s).store.queue = s.store.queue ∧ (adoptChoice s).store.write = s.store.write ∧
    (adoptChoice s).panel.mask = s.panel.mask ∧ (adoptChoice s).panel.stopn = s.panel.stopn ∧
    (adoptChoice s).panel.reply = s.panel.reply ∧ (adoptChoice s).panel.restartPending = s.panel.restartPending ∧
    (adoptChoice s).panel.transaction = s.panel.transaction ∧ (adoptChoice s).line.cutOff = s.line.cutOff ∧
    (adoptChoice s).line.listener = s.line.listener := by
  simp only [adoptChoice]; (repeat' split) <;> simp

@[simp] theorem catchUpOven_frame (k : Nat) (s : State) :
    (catchUpOven k s).pending = s.pending ∧ (catchUpOven k s).pins = s.pins ∧
    (catchUpOven k s).resetRecord = s.resetRecord ∧ (catchUpOven k s).cfg = s.cfg ∧
    (catchUpOven k s).fresh = s.fresh ∧ (catchUpOven k s).line = s.line ∧ (catchUpOven k s).peer = s.peer ∧
    (catchUpOven k s).ticket = s.ticket ∧ (catchUpOven k s).sched.roster = s.sched.roster ∧
    (catchUpOven k s).sched.cursor = s.sched.cursor ∧ (catchUpOven k s).door = s.door ∧
    (catchUpOven k s).press = s.press ∧ (catchUpOven k s).car = s.car ∧
    (catchUpOven k s).store.array = s.store.array ∧ (catchUpOven k s).store.queue = s.store.queue ∧
    (catchUpOven k s).store.write = s.store.write ∧ (catchUpOven k s).panel.mask = s.panel.mask ∧
    (catchUpOven k s).panel.stopn = s.panel.stopn ∧ (catchUpOven k s).panel.reply = s.panel.reply ∧
    (catchUpOven k s).panel.restartPending = s.panel.restartPending ∧
    (catchUpOven k s).panel.transaction = s.panel.transaction := by
  unfold catchUpOven; (repeat' split) <;> simp

@[simp] theorem suspectOven_frame (k : Nat) (s : State) :
    (suspectOven k s).pending = s.pending ∧ (suspectOven k s).pins = s.pins ∧
    (suspectOven k s).resetRecord = s.resetRecord ∧ (suspectOven k s).cfg = s.cfg ∧
    (suspectOven k s).fresh = s.fresh ∧ (suspectOven k s).line = s.line ∧ (suspectOven k s).peer = s.peer ∧
    (suspectOven k s).ticket = s.ticket ∧ (suspectOven k s).sched.roster = s.sched.roster ∧
    (suspectOven k s).sched.cursor = s.sched.cursor ∧ (suspectOven k s).door = s.door ∧
    (suspectOven k s).press = s.press ∧ (suspectOven k s).car = s.car ∧
    (suspectOven k s).store.array = s.store.array ∧ (suspectOven k s).store.queue = s.store.queue ∧
    (suspectOven k s).store.write = s.store.write ∧ (suspectOven k s).panel = s.panel := by
  simp [suspectOven]

/-- The catch-up keeps what its steps keep. -/
theorem catchUp_keeps {α : Type} (g : State → α) (hc : ∀ k s, g (catchUpOven k s) = g s)
    (hs : ∀ k s, g (suspectOven k s) = g s) (hw : ∀ r s, g (want r s) = g s)
    (hr : ∀ s, g (raise .clockSuspect s) = g s) (s : State) : g (catchUp s) = g s := by
  unfold catchUp
  rw [forSlots_keeps g _ (fun _ _ => hw _ _)]
  split
  · exact forSlots_keeps g _ hc _
  · rw [hr, forSlots_keeps g _ hs, forSlots_keeps g _ hc]

@[simp] theorem catchUp_frame (s : State) :
    (catchUp s).pending = s.pending ∧ (catchUp s).pins = s.pins ∧ (catchUp s).resetRecord = s.resetRecord ∧
    (catchUp s).cfg = s.cfg ∧ (catchUp s).fresh = s.fresh ∧ (catchUp s).line = s.line ∧
    (catchUp s).peer = s.peer ∧ (catchUp s).ticket = s.ticket ∧ (catchUp s).sched.roster = s.sched.roster ∧
    (catchUp s).sched.cursor = s.sched.cursor ∧ (catchUp s).door = s.door ∧ (catchUp s).press = s.press ∧
    (catchUp s).car = s.car ∧ (catchUp s).store.array = s.store.array ∧ (catchUp s).store.queue = s.store.queue ∧
    (catchUp s).store.write = s.store.write ∧ (catchUp s).panel.mask = s.panel.mask ∧
    (catchUp s).panel.stopn = s.panel.stopn ∧ (catchUp s).panel.reply = s.panel.reply ∧
    (catchUp s).panel.restartPending = s.panel.restartPending ∧ (catchUp s).panel.transaction = s.panel.transaction := by
  exact ⟨
    catchUp_keeps (fun s => s.pending) (fun _ _ => by simp) (fun _ _ => by simp) (fun _ _ => by simp) (fun _ => by simp) s,
    catchUp_keeps (fun s => s.pins) (fun _ _ => by simp) (fun _ _ => by simp) (fun _ _ => by simp) (fun _ => by simp) s,
    catchUp_keeps (fun s => s.resetRecord) (fun _ _ => by simp) (fun _ _ => by simp) (fun _ _ => by simp) (fun _ => by simp) s,
    catchUp_keeps (fun s => s.cfg) (fun _ _ => by simp) (fun _ _ => by simp) (fun _ _ => by simp) (fun _ => by simp) s,
    catchUp_keeps (fun s => s.fresh) (fun _ _ => by simp) (fun _ _ => by simp) (fun _ _ => by simp) (fun _ => by simp) s,
    catchUp_keeps (fun s => s.line) (fun _ _ => by simp) (fun _ _ => by simp) (fun _ _ => by simp) (fun _ => by simp) s,
    catchUp_keeps (fun s => s.peer) (fun _ _ => by simp) (fun _ _ => by simp) (fun _ _ => by simp) (fun _ => by simp) s,
    catchUp_keeps (fun s => s.ticket) (fun _ _ => by simp) (fun _ _ => by simp) (fun _ _ => by simp) (fun _ => by simp) s,
    catchUp_keeps (fun s => s.sched.roster) (fun _ _ => by simp) (fun _ _ => by simp) (fun _ _ => by simp) (fun _ => by simp) s,
    catchUp_keeps (fun s => s.sched.cursor) (fun _ _ => by simp) (fun _ _ => by simp) (fun _ _ => by simp) (fun _ => by simp) s,
    catchUp_keeps (fun s => s.door) (fun _ _ => by simp) (fun _ _ => by simp) (fun _ _ => by simp) (fun _ => by simp) s,
    catchUp_keeps (fun s => s.press) (fun _ _ => by simp) (fun _ _ => by simp) (fun _ _ => by simp) (fun _ => by simp) s,
    catchUp_keeps (fun s => s.car) (fun _ _ => by simp) (fun _ _ => by simp) (fun _ _ => by simp) (fun _ => by simp) s,
    catchUp_keeps (fun s => s.store.array) (fun _ _ => by simp) (fun _ _ => by simp) (fun _ _ => by simp) (fun _ => by simp) s,
    catchUp_keeps (fun s => s.store.queue) (fun _ _ => by simp) (fun _ _ => by simp) (fun _ _ => by simp) (fun _ => by simp) s,
    catchUp_keeps (fun s => s.store.write) (fun _ _ => by simp) (fun _ _ => by simp) (fun _ _ => by simp) (fun _ => by simp) s,
    catchUp_keeps (fun s => s.panel.mask) (fun _ _ => by simp) (fun _ _ => by simp) (fun _ _ => by simp) (fun _ => by simp) s,
    catchUp_keeps (fun s => s.panel.stopn) (fun _ _ => by simp) (fun _ _ => by simp) (fun _ _ => by simp) (fun _ => by simp) s,
    catchUp_keeps (fun s => s.panel.reply) (fun _ _ => by simp) (fun _ _ => by simp) (fun _ _ => by simp) (fun _ => by simp) s,
    catchUp_keeps (fun s => s.panel.restartPending) (fun _ _ => by simp) (fun _ _ => by simp) (fun _ _ => by simp) (fun _ => by simp) s,
    catchUp_keeps (fun s => s.panel.transaction) (fun _ _ => by simp) (fun _ _ => by simp) (fun _ _ => by simp) (fun _ => by simp) s⟩

@[simp] theorem completeStartJoin_frame (s : State) :
    (completeStartJoin s).pending = s.pending ∧ (completeStartJoin s).pins = s.pins ∧
    (completeStartJoin s).resetRecord = s.resetRecord ∧ (completeStartJoin s).cfg = s.cfg ∧
    (completeStartJoin s).fresh = s.fresh ∧ (completeStartJoin s).line.state = s.line.state ∧
    (completeStartJoin s).line.ownReturn = s.line.ownReturn ∧ (completeStartJoin s).line.score = s.line.score ∧
    (completeStartJoin s).line.withdrawTimer = s.line.withdrawTimer ∧
    (completeStartJoin s).line.counters.rxGood = s.line.counters.rxGood ∧
    (completeStartJoin s).line.counters.rxBad = s.line.counters.rxBad ∧
    (completeStartJoin s).line.counters.txDone = s.line.counters.txDone ∧
    (completeStartJoin s).line.counters.txRetry = s.line.counters.txRetry ∧
    (completeStartJoin s).line.counters.lapses = s.line.counters.lapses ∧
    (completeStartJoin s).peer.table = s.peer.table ∧ (completeStartJoin s).peer.lineMinute = s.peer.lineMinute ∧
    (completeStartJoin s).peer.timeBaseMs = s.peer.timeBaseMs ∧
    (completeStartJoin s).peer.standingTimer = s.peer.standingTimer ∧
    (completeStartJoin s).peer.joinTimer = s.peer.joinTimer ∧ (completeStartJoin s).peer.heard = s.peer.heard ∧
    (completeStartJoin s).ticket.stopFlag = s.ticket.stopFlag ∧
    (completeStartJoin s).sched.roster = s.sched.roster ∧ (completeStartJoin s).press = s.press ∧
    (completeStartJoin s).store.array = s.store.array ∧ (completeStartJoin s).store.queue = s.store.queue ∧
    (completeStartJoin s).store.write = s.store.write ∧ (completeStartJoin s).panel.mask = s.panel.mask ∧
    (completeStartJoin s).panel.stopn = s.panel.stopn ∧ (completeStartJoin s).panel.reply = s.panel.reply ∧
    (completeStartJoin s).panel.restartPending = s.panel.restartPending ∧
    (completeStartJoin s).panel.transaction = s.panel.transaction ∧ (completeStartJoin s).line.cutOff = s.line.cutOff ∧
    (completeStartJoin s).line.listener = s.line.listener := by
  simp [completeStartJoin]

@[simp] theorem completeJoin_frame (s : State) :
    (completeJoin s).pending = s.pending ∧ (completeJoin s).pins = s.pins ∧
    (completeJoin s).resetRecord = s.resetRecord ∧ (completeJoin s).cfg = s.cfg ∧
    (completeJoin s).fresh = s.fresh ∧ (completeJoin s).line.ownReturn = s.line.ownReturn ∧
    (completeJoin s).line.score = s.line.score ∧ (completeJoin s).line.withdrawTimer = s.line.withdrawTimer ∧
    (completeJoin s).line.counters.rxGood = s.line.counters.rxGood ∧
    (completeJoin s).line.counters.rxBad = s.line.counters.rxBad ∧
    (completeJoin s).line.counters.txDone = s.line.counters.txDone ∧
    (completeJoin s).line.counters.txRetry = s.line.counters.txRetry ∧
    (completeJoin s).line.counters.lapses = s.line.counters.lapses ∧ (completeJoin s).peer.table = s.peer.table ∧
    (completeJoin s).peer.lineMinute = s.peer.lineMinute ∧ (completeJoin s).peer.timeBaseMs = s.peer.timeBaseMs ∧
    (completeJoin s).peer.heard = s.peer.heard ∧ (completeJoin s).ticket.stopFlag = s.ticket.stopFlag ∧
    (completeJoin s).sched.roster = s.sched.roster ∧ (completeJoin s).press = s.press ∧
    (completeJoin s).store.array = s.store.array ∧ (completeJoin s).store.queue = s.store.queue ∧
    (completeJoin s).store.write = s.store.write ∧ (completeJoin s).panel.mask = s.panel.mask ∧
    (completeJoin s).panel.stopn = s.panel.stopn ∧ (completeJoin s).panel.reply = s.panel.reply ∧
    (completeJoin s).panel.restartPending = s.panel.restartPending ∧
    (completeJoin s).panel.transaction = s.panel.transaction ∧ (completeJoin s).line.cutOff = s.line.cutOff ∧
    (completeJoin s).line.listener = s.line.listener := by
  simp only [completeJoin]; split <;> simp

end Sys2Proof.Machine
end

