-- ==== Sys2Proof/Laws/FrameFrames.lean ====
section
/-! SUPPORT. What each shared operation of the frames taken leaves unchanged: one lemma each, all of it a simp set. -/

namespace Sys2Proof.Machine

@[simp] theorem endCutOff_frame (s : State) :
    (endCutOff s).pending = s.pending ∧ (endCutOff s).pins = s.pins ∧ (endCutOff s).resetRecord = s.resetRecord ∧
    (endCutOff s).cfg = s.cfg ∧ (endCutOff s).fresh = s.fresh ∧
    (endCutOff s).line = { s.line with cutOff := false } ∧ (endCutOff s).peer = s.peer ∧
    (endCutOff s).ticket = s.ticket ∧ (endCutOff s).sched = s.sched ∧ (endCutOff s).door = s.door ∧
    (endCutOff s).press = s.press ∧ (endCutOff s).car = s.car ∧ (endCutOff s).store = s.store ∧
    (endCutOff s).panel = s.panel := by
  simp [endCutOff]

@[simp] theorem takeOwn_frame (s : State) :
    (takeOwn s).pending = s.pending ∧ (takeOwn s).pins = s.pins ∧ (takeOwn s).resetRecord = s.resetRecord ∧
    (takeOwn s).cfg = s.cfg ∧ (takeOwn s).fresh = s.fresh ∧ (takeOwn s).line.state = s.line.state ∧
    (takeOwn s).line.attempt = s.line.attempt ∧ (takeOwn s).line.score = s.line.score ∧
    (takeOwn s).line.withdrawTimer = s.line.withdrawTimer ∧ (takeOwn s).line.q0 = s.line.q0 ∧
    (takeOwn s).line.q1 = s.line.q1 ∧ (takeOwn s).line.q2 = s.line.q2 ∧ (takeOwn s).line.q3 = s.line.q3 ∧
    (takeOwn s).line.dropped = s.line.dropped ∧ (takeOwn s).line.counters = s.line.counters ∧
    (takeOwn s).peer = s.peer ∧ (takeOwn s).ticket = s.ticket ∧ (takeOwn s).sched = s.sched ∧
    (takeOwn s).door = s.door ∧ (takeOwn s).press = s.press ∧ (takeOwn s).car = s.car ∧
    (takeOwn s).store = s.store ∧ (takeOwn s).panel = s.panel ∧ (takeOwn s).line.cutOff = s.line.cutOff ∧
    (takeOwn s).line.listener = s.line.listener := by
  simp [takeOwn]

@[simp] theorem takeStop_frame (s : State) :
    (takeStop s).pending = s.pending ∧ (takeStop s).pins = s.pins ∧ (takeStop s).resetRecord = s.resetRecord ∧
    (takeStop s).cfg = s.cfg ∧ (takeStop s).fresh = s.fresh ∧ (takeStop s).line.state = s.line.state ∧
    (takeStop s).line.attempt = s.line.attempt ∧ (takeStop s).line.ownReturn = s.line.ownReturn ∧
    (takeStop s).line.score = s.line.score ∧ (takeStop s).line.withdrawTimer = s.line.withdrawTimer ∧
    (takeStop s).line.q2 = s.line.q2 ∧ (takeStop s).line.q3 = s.line.q3 ∧
    (takeStop s).line.dropped = s.line.dropped ∧ (takeStop s).line.counters = s.line.counters ∧
    (takeStop s).peer = s.peer ∧ (takeStop s).ticket.record = s.ticket.record ∧
    (takeStop s).ticket.lastDone = s.ticket.lastDone ∧ (takeStop s).ticket.pacing = s.ticket.pacing ∧
    (takeStop s).sched.roster = s.sched.roster ∧ (takeStop s).sched.cursor = s.sched.cursor ∧
    (takeStop s).door = s.door ∧ (takeStop s).press = s.press ∧ (takeStop s).car.position = s.car.position ∧
    (takeStop s).car.state = s.car.state ∧ (takeStop s).car.action = s.car.action ∧
    (takeStop s).car.served = s.car.served ∧ (takeStop s).car.doorHeld = s.car.doorHeld ∧
    (takeStop s).car.stallHeld = s.car.stallHeld ∧ (takeStop s).car.faultDeclined = s.car.faultDeclined ∧
    (takeStop s).car.actionLimit = s.car.actionLimit ∧ (takeStop s).car.queue = s.car.queue ∧
    (takeStop s).car.inProgress = s.car.inProgress ∧ (takeStop s).car.direction = s.car.direction ∧
    (takeStop s).car.quench = s.car.quench ∧ (takeStop s).car.hotTravel = s.car.hotTravel ∧
    (takeStop s).car.quenchTimer = s.car.quenchTimer ∧ (takeStop s).car.drainTimer = s.car.drainTimer ∧
    (takeStop s).car.marker = s.car.marker ∧ (takeStop s).car.home = s.car.home ∧ (takeStop s).store = s.store ∧
    (takeStop s).panel.mask = s.panel.mask ∧ (takeStop s).panel.stopn = s.panel.stopn ∧
    (takeStop s).panel.reply = s.panel.reply ∧ (takeStop s).panel.restartPending = s.panel.restartPending ∧
    (takeStop s).line.cutOff = s.line.cutOff ∧ (takeStop s).line.listener = s.line.listener ∧
    (takeStop s).car.actionServes = s.car.actionServes ∧ (takeStop s).panel.transaction = s.panel.transaction := by
  unfold takeStop; split <;> simp

@[simp] theorem takeResume_frame (s : State) :
    (takeResume s).pending = s.pending ∧ (takeResume s).pins = s.pins ∧
    (takeResume s).resetRecord = s.resetRecord ∧ (takeResume s).cfg = s.cfg ∧ (takeResume s).fresh = s.fresh ∧
    (takeResume s).line.state = s.line.state ∧ (takeResume s).line.ownReturn = s.line.ownReturn ∧
    (takeResume s).line.score = s.line.score ∧ (takeResume s).line.withdrawTimer = s.line.withdrawTimer ∧
    (takeResume s).line.counters.rxGood = s.line.counters.rxGood ∧
    (takeResume s).line.counters.rxBad = s.line.counters.rxBad ∧
    (takeResume s).line.counters.txDone = s.line.counters.txDone ∧
    (takeResume s).line.counters.txRetry = s.line.counters.txRetry ∧
    (takeResume s).line.counters.lapses = s.line.counters.lapses ∧ (takeResume s).peer = s.peer ∧
    (takeResume s).ticket.record = s.ticket.record ∧ (takeResume s).ticket.lastDone = s.ticket.lastDone ∧
    (takeResume s).ticket.pacing = s.ticket.pacing ∧ (takeResume s).sched.roster = s.sched.roster ∧
    (takeResume s).sched.cursor = s.sched.cursor ∧ (takeResume s).door = s.door ∧ (takeResume s).press = s.press ∧
    (takeResume s).car.position = s.car.position ∧ (takeResume s).car.state = s.car.state ∧
    (takeResume s).car.action = s.car.action ∧ (takeResume s).car.served = s.car.served ∧
    (takeResume s).car.doorHeld = s.car.doorHeld ∧ (takeResume s).car.stallHeld = s.car.stallHeld ∧
    (takeResume s).car.faultDeclined = s.car.faultDeclined ∧ (takeResume s).car.actionLimit = s.car.actionLimit ∧
    (takeResume s).car.queue = s.car.queue ∧ (takeResume s).car.inProgress = s.car.inProgress ∧
    (takeResume s).car.direction = s.car.direction ∧ (takeResume s).car.quench = s.car.quench ∧
    (takeResume s).car.hotTravel = s.car.hotTravel ∧ (takeResume s).car.quenchTimer = s.car.quenchTimer ∧
    (takeResume s).car.drainTimer = s.car.drainTimer ∧ (takeResume s).car.marker = s.car.marker ∧
    (takeResume s).car.home = s.car.home ∧ (takeResume s).store = s.store ∧
    (takeResume s).panel.mask = s.panel.mask ∧ (takeResume s).panel.stopn = s.panel.stopn ∧
    (takeResume s).panel.reply = s.panel.reply ∧ (takeResume s).panel.restartPending = s.panel.restartPending ∧
    (takeResume s).line.cutOff = s.line.cutOff ∧ (takeResume s).line.listener = s.line.listener ∧
    (takeResume s).car.actionServes = s.car.actionServes ∧ (takeResume s).panel.transaction = s.panel.transaction := by
  simp only [takeResume]; (repeat' split) <;> simp

@[simp] theorem takeClaim_frame (src : Nat) (t : Ticket) (oven : Nat) (s : State) :
    (takeClaim src t oven s).pending = s.pending ∧ (takeClaim src t oven s).pins = s.pins ∧
    (takeClaim src t oven s).resetRecord = s.resetRecord ∧ (takeClaim src t oven s).cfg = s.cfg ∧
    (takeClaim src t oven s).fresh = s.fresh ∧ (takeClaim src t oven s).line.score = s.line.score ∧
    (takeClaim src t oven s).line.counters.rxGood = s.line.counters.rxGood ∧
    (takeClaim src t oven s).line.counters.rxBad = s.line.counters.rxBad ∧
    (takeClaim src t oven s).line.counters.txDone = s.line.counters.txDone ∧
    (takeClaim src t oven s).line.counters.txRetry = s.line.counters.txRetry ∧
    (takeClaim src t oven s).line.counters.lapses = s.line.counters.lapses ∧
    (takeClaim src t oven s).peer.lineMinute = s.peer.lineMinute ∧
    (takeClaim src t oven s).peer.timeBaseMs = s.peer.timeBaseMs ∧
    (takeClaim src t oven s).peer.choice = s.peer.choice ∧ (takeClaim src t oven s).peer.heard = s.peer.heard ∧
    (takeClaim src t oven s).ticket.lastDone = s.ticket.lastDone ∧
    (takeClaim src t oven s).ticket.stopFlag = s.ticket.stopFlag ∧
    (takeClaim src t oven s).sched.roster = s.sched.roster ∧
    (takeClaim src t oven s).sched.cursor = s.sched.cursor ∧
    (takeClaim src t oven s).press.scanTimer = s.press.scanTimer ∧
    (takeClaim src t oven s).press.converting = s.press.converting ∧
    (takeClaim src t oven s).press.channels = s.press.channels ∧
    (takeClaim src t oven s).press.main = s.press.main ∧
    (takeClaim src t oven s).press.dampers = s.press.dampers ∧
    (takeClaim src t oven s).press.driven = s.press.driven ∧
    (takeClaim src t oven s).press.boundary = s.press.boundary ∧
    (takeClaim src t oven s).car.position = s.car.position ∧ (takeClaim src t oven s).car.state = s.car.state ∧
    (takeClaim src t oven s).car.action = s.car.action ∧ (takeClaim src t oven s).car.doorHeld = s.car.doorHeld ∧
    (takeClaim src t oven s).car.stallHeld = s.car.stallHeld ∧
    (takeClaim src t oven s).car.actionLimit = s.car.actionLimit ∧
    (takeClaim src t oven s).car.inProgress = s.car.inProgress ∧
    (takeClaim src t oven s).car.direction = s.car.direction ∧
    (takeClaim src t oven s).car.quench = s.car.quench ∧
    (takeClaim src t oven s).car.hotTravel = s.car.hotTravel ∧
    (takeClaim src t oven s).car.quenchTimer = s.car.quenchTimer ∧
    (takeClaim src t oven s).car.drainTimer = s.car.drainTimer ∧
    (takeClaim src t oven s).car.marker = s.car.marker ∧ (takeClaim src t oven s).car.home = s.car.home ∧
    (takeClaim src t oven s).store.array = s.store.array ∧ (takeClaim src t oven s).store.queue = s.store.queue ∧
    (takeClaim src t oven s).store.write = s.store.write ∧ (takeClaim src t oven s).panel.mask = s.panel.mask ∧
    (takeClaim src t oven s).panel.stopn = s.panel.stopn ∧ (takeClaim src t oven s).panel.reply = s.panel.reply ∧
    (takeClaim src t oven s).panel.restartPending = s.panel.restartPending ∧
    (takeClaim src t oven s).line.cutOff = s.line.cutOff ∧
    (takeClaim src t oven s).line.listener = s.line.listener ∧
    (takeClaim src t oven s).car.actionServes = s.car.actionServes ∧
    (takeClaim src t oven s).panel.transaction = s.panel.transaction := by
  simp only [takeClaim]; (repeat' split) <;> simp

@[simp] theorem takeAssent_frame (src : Nat) (t : Ticket) (oven : Nat) (k : CarKind) (s : State) :
    (takeAssent src t oven k s).pending = s.pending ∧ (takeAssent src t oven k s).pins = s.pins ∧
    (takeAssent src t oven k s).resetRecord = s.resetRecord ∧ (takeAssent src t oven k s).cfg = s.cfg ∧
    (takeAssent src t oven k s).fresh = s.fresh ∧ (takeAssent src t oven k s).line.state = s.line.state ∧
    (takeAssent src t oven k s).line.ownReturn = s.line.ownReturn ∧
    (takeAssent src t oven k s).line.score = s.line.score ∧
    (takeAssent src t oven k s).line.withdrawTimer = s.line.withdrawTimer ∧
    (takeAssent src t oven k s).line.counters.rxGood = s.line.counters.rxGood ∧
    (takeAssent src t oven k s).line.counters.rxBad = s.line.counters.rxBad ∧
    (takeAssent src t oven k s).line.counters.txDone = s.line.counters.txDone ∧
    (takeAssent src t oven k s).line.counters.txRetry = s.line.counters.txRetry ∧
    (takeAssent src t oven k s).line.counters.lapses = s.line.counters.lapses ∧
    (takeAssent src t oven k s).peer = s.peer ∧ (takeAssent src t oven k s).ticket.lastDone = s.ticket.lastDone ∧
    (takeAssent src t oven k s).ticket.stopFlag = s.ticket.stopFlag ∧
    (takeAssent src t oven k s).ticket.pacing = s.ticket.pacing ∧
    (takeAssent src t oven k s).sched.roster = s.sched.roster ∧
    (takeAssent src t oven k s).sched.cursor = s.sched.cursor ∧ (takeAssent src t oven k s).press = s.press ∧
    (takeAssent src t oven k s).car = s.car ∧ (takeAssent src t oven k s).store.array = s.store.array ∧
    (takeAssent src t oven k s).store.queue = s.store.queue ∧
    (takeAssent src t oven k s).store.write = s.store.write ∧
    (takeAssent src t oven k s).panel.mask = s.panel.mask ∧
    (takeAssent src t oven k s).panel.stopn = s.panel.stopn ∧
    (takeAssent src t oven k s).panel.reply = s.panel.reply ∧
    (takeAssent src t oven k s).panel.restartPending = s.panel.restartPending ∧
    (takeAssent src t oven k s).line.cutOff = s.line.cutOff ∧
    (takeAssent src t oven k s).line.listener = s.line.listener ∧
    (takeAssent src t oven k s).panel.transaction = s.panel.transaction := by
  simp only [takeAssent]; (repeat' split) <;> simp

@[simp] theorem takeDecline_frame (src : Nat) (t : Ticket) (oven : Nat) (k : CarKind) (s : State) :
    (takeDecline src t oven k s).pending = s.pending ∧ (takeDecline src t oven k s).pins = s.pins ∧
    (takeDecline src t oven k s).resetRecord = s.resetRecord ∧ (takeDecline src t oven k s).cfg = s.cfg ∧
    (takeDecline src t oven k s).fresh = s.fresh ∧ (takeDecline src t oven k s).line.state = s.line.state ∧
    (takeDecline src t oven k s).line.ownReturn = s.line.ownReturn ∧
    (takeDecline src t oven k s).line.score = s.line.score ∧
    (takeDecline src t oven k s).line.withdrawTimer = s.line.withdrawTimer ∧
    (takeDecline src t oven k s).line.counters.rxGood = s.line.counters.rxGood ∧
    (takeDecline src t oven k s).line.counters.rxBad = s.line.counters.rxBad ∧
    (takeDecline src t oven k s).line.counters.txDone = s.line.counters.txDone ∧
    (takeDecline src t oven k s).line.counters.txRetry = s.line.counters.txRetry ∧
    (takeDecline src t oven k s).line.counters.lapses = s.line.counters.lapses ∧
    (takeDecline src t oven k s).peer = s.peer ∧
    (takeDecline src t oven k s).ticket.lastDone = s.ticket.lastDone ∧
    (takeDecline src t oven k s).ticket.stopFlag = s.ticket.stopFlag ∧
    (takeDecline src t oven k s).ticket.pacing = s.ticket.pacing ∧
    (takeDecline src t oven k s).sched.roster = s.sched.roster ∧
    (takeDecline src t oven k s).sched.cursor = s.sched.cursor ∧ (takeDecline src t oven k s).door = s.door ∧
    (takeDecline src t oven k s).press = s.press ∧ (takeDecline src t oven k s).car = s.car ∧
    (takeDecline src t oven k s).store = s.store ∧ (takeDecline src t oven k s).panel.mask = s.panel.mask ∧
    (takeDecline src t oven k s).panel.stopn = s.panel.stopn ∧
    (takeDecline src t oven k s).panel.reply = s.panel.reply ∧
    (takeDecline src t oven k s).panel.restartPending = s.panel.restartPending ∧
    (takeDecline src t oven k s).line.cutOff = s.line.cutOff ∧
    (takeDecline src t oven k s).line.listener = s.line.listener ∧
    (takeDecline src t oven k s).panel.transaction = s.panel.transaction := by
  unfold takeDecline; (repeat' split) <;> simp

@[simp] theorem takeOpen_frame (src : Nat) (t : Ticket) (oven : Nat) (s : State) :
    (takeOpen src t oven s).pending = s.pending ∧ (takeOpen src t oven s).pins = s.pins ∧
    (takeOpen src t oven s).resetRecord = s.resetRecord ∧ (takeOpen src t oven s).cfg = s.cfg ∧
    (takeOpen src t oven s).fresh = s.fresh ∧ (takeOpen src t oven s).line.state = s.line.state ∧
    (takeOpen src t oven s).line.attempt = s.line.attempt ∧
    (takeOpen src t oven s).line.ownReturn = s.line.ownReturn ∧
    (takeOpen src t oven s).line.score = s.line.score ∧
    (takeOpen src t oven s).line.withdrawTimer = s.line.withdrawTimer ∧
    (takeOpen src t oven s).line.q0 = s.line.q0 ∧ (takeOpen src t oven s).line.q1 = s.line.q1 ∧
    (takeOpen src t oven s).line.q2 = s.line.q2 ∧ (takeOpen src t oven s).line.q3 = s.line.q3 ∧
    (takeOpen src t oven s).line.counters = s.line.counters ∧ (takeOpen src t oven s).peer = s.peer ∧
    (takeOpen src t oven s).ticket.lastDone = s.ticket.lastDone ∧
    (takeOpen src t oven s).ticket.stopFlag = s.ticket.stopFlag ∧
    (takeOpen src t oven s).ticket.claim = s.ticket.claim ∧
    (takeOpen src t oven s).ticket.pacing = s.ticket.pacing ∧
    (takeOpen src t oven s).ticket.backoff = s.ticket.backoff ∧
    (takeOpen src t oven s).sched.roster = s.sched.roster ∧
    (takeOpen src t oven s).sched.cursor = s.sched.cursor ∧ (takeOpen src t oven s).press = s.press ∧
    (takeOpen src t oven s).car = s.car ∧ (takeOpen src t oven s).store.array = s.store.array ∧
    (takeOpen src t oven s).store.queue = s.store.queue ∧ (takeOpen src t oven s).store.write = s.store.write ∧
    (takeOpen src t oven s).panel.mask = s.panel.mask ∧ (takeOpen src t oven s).panel.stopn = s.panel.stopn ∧
    (takeOpen src t oven s).panel.reply = s.panel.reply ∧
    (takeOpen src t oven s).panel.restartPending = s.panel.restartPending ∧
    (takeOpen src t oven s).line.cutOff = s.line.cutOff ∧
    (takeOpen src t oven s).line.listener = s.line.listener ∧
    (takeOpen src t oven s).panel.transaction = s.panel.transaction := by
  unfold takeOpen; (repeat' split) <;> simp

@[simp] theorem takeSpotted_frame (src : Nat) (t : Ticket) (oven : Nat) (k : CarKind) (s : State) :
    (takeSpotted src t oven k s).pending = s.pending ∧ (takeSpotted src t oven k s).pins = s.pins ∧
    (takeSpotted src t oven k s).resetRecord = s.resetRecord ∧ (takeSpotted src t oven k s).cfg = s.cfg ∧
    (takeSpotted src t oven k s).fresh = s.fresh ∧ (takeSpotted src t oven k s).line = s.line ∧
    (takeSpotted src t oven k s).peer = s.peer ∧
    (takeSpotted src t oven k s).ticket.lastDone = s.ticket.lastDone ∧
    (takeSpotted src t oven k s).ticket.stopFlag = s.ticket.stopFlag ∧
    (takeSpotted src t oven k s).ticket.claim = s.ticket.claim ∧
    (takeSpotted src t oven k s).ticket.pacing = s.ticket.pacing ∧
    (takeSpotted src t oven k s).ticket.backoff = s.ticket.backoff ∧
    (takeSpotted src t oven k s).ticket.context = s.ticket.context ∧
    (takeSpotted src t oven k s).sched = s.sched ∧ (takeSpotted src t oven k s).door = s.door ∧
    (takeSpotted src t oven k s).press = s.press ∧ (takeSpotted src t oven k s).car = s.car ∧
    (takeSpotted src t oven k s).store = s.store ∧ (takeSpotted src t oven k s).panel = s.panel := by
  unfold takeSpotted; split <;> simp

@[simp] theorem takeReady_frame (src : Nat) (t : Ticket) (oven : Nat) (k : CarKind) (s : State) :
    (takeReady src t oven k s).pending = s.pending ∧ (takeReady src t oven k s).pins = s.pins ∧
    (takeReady src t oven k s).resetRecord = s.resetRecord ∧ (takeReady src t oven k s).cfg = s.cfg ∧
    (takeReady src t oven k s).fresh = s.fresh ∧ (takeReady src t oven k s).line = s.line ∧
    (takeReady src t oven k s).peer = s.peer ∧ (takeReady src t oven k s).ticket.lastDone = s.ticket.lastDone ∧
    (takeReady src t oven k s).ticket.stopFlag = s.ticket.stopFlag ∧
    (takeReady src t oven k s).ticket.claim = s.ticket.claim ∧
    (takeReady src t oven k s).ticket.pacing = s.ticket.pacing ∧
    (takeReady src t oven k s).ticket.backoff = s.ticket.backoff ∧
    (takeReady src t oven k s).ticket.context = s.ticket.context ∧ (takeReady src t oven k s).sched = s.sched ∧
    (takeReady src t oven k s).door = s.door ∧ (takeReady src t oven k s).press = s.press ∧
    (takeReady src t oven k s).car = s.car ∧ (takeReady src t oven k s).store = s.store ∧
    (takeReady src t oven k s).panel = s.panel := by
  unfold takeReady; split <;> simp

@[simp] theorem takeGo_frame (src : Nat) (t : Ticket) (oven : Nat) (s : State) :
    (takeGo src t oven s).pending = s.pending ∧ (takeGo src t oven s).pins = s.pins ∧
    (takeGo src t oven s).resetRecord = s.resetRecord ∧ (takeGo src t oven s).cfg = s.cfg ∧
    (takeGo src t oven s).fresh = s.fresh ∧ (takeGo src t oven s).line.state = s.line.state ∧
    (takeGo src t oven s).line.attempt = s.line.attempt ∧
    (takeGo src t oven s).line.ownReturn = s.line.ownReturn ∧ (takeGo src t oven s).line.score = s.line.score ∧
    (takeGo src t oven s).line.withdrawTimer = s.line.withdrawTimer ∧ (takeGo src t oven s).line.q2 = s.line.q2 ∧
    (takeGo src t oven s).line.q3 = s.line.q3 ∧ (takeGo src t oven s).line.counters = s.line.counters ∧
    (takeGo src t oven s).peer = s.peer ∧ (takeGo src t oven s).ticket.lastDone = s.ticket.lastDone ∧
    (takeGo src t oven s).ticket.stopFlag = s.ticket.stopFlag ∧
    (takeGo src t oven s).ticket.claim = s.ticket.claim ∧ (takeGo src t oven s).ticket.pacing = s.ticket.pacing ∧
    (takeGo src t oven s).ticket.backoff = s.ticket.backoff ∧
    (takeGo src t oven s).sched.roster = s.sched.roster ∧ (takeGo src t oven s).sched.cursor = s.sched.cursor ∧
    (takeGo src t oven s).press = s.press ∧ (takeGo src t oven s).car.position = s.car.position ∧
    (takeGo src t oven s).car.state = s.car.state ∧ (takeGo src t oven s).car.action = s.car.action ∧
    (takeGo src t oven s).car.served = s.car.served ∧ (takeGo src t oven s).car.doorHeld = s.car.doorHeld ∧
    (takeGo src t oven s).car.stallHeld = s.car.stallHeld ∧
    (takeGo src t oven s).car.faultDeclined = s.car.faultDeclined ∧
    (takeGo src t oven s).car.markerLimit = s.car.markerLimit ∧
    (takeGo src t oven s).car.actionLimit = s.car.actionLimit ∧ (takeGo src t oven s).car.queue = s.car.queue ∧
    (takeGo src t oven s).car.inProgress = s.car.inProgress ∧
    (takeGo src t oven s).car.direction = s.car.direction ∧
    (takeGo src t oven s).car.hotTravel = s.car.hotTravel ∧
    (takeGo src t oven s).car.quenchTimer = s.car.quenchTimer ∧
    (takeGo src t oven s).car.drainTimer = s.car.drainTimer ∧ (takeGo src t oven s).car.marker = s.car.marker ∧
    (takeGo src t oven s).car.home = s.car.home ∧ (takeGo src t oven s).store.array = s.store.array ∧
    (takeGo src t oven s).store.queue = s.store.queue ∧ (takeGo src t oven s).store.write = s.store.write ∧
    (takeGo src t oven s).panel.mask = s.panel.mask ∧ (takeGo src t oven s).panel.stopn = s.panel.stopn ∧
    (takeGo src t oven s).panel.reply = s.panel.reply ∧
    (takeGo src t oven s).panel.restartPending = s.panel.restartPending ∧
    (takeGo src t oven s).line.cutOff = s.line.cutOff ∧ (takeGo src t oven s).line.listener = s.line.listener ∧
    (takeGo src t oven s).car.actionServes = s.car.actionServes ∧
    (takeGo src t oven s).panel.transaction = s.panel.transaction := by
  simp only [takeGo]; (repeat' split) <;> simp

@[simp] theorem takeStall_frame (src : Nat) (t : Ticket) (oven : Nat) (s : State) :
    (takeStall src t oven s).pending = s.pending ∧ (takeStall src t oven s).pins = s.pins ∧
    (takeStall src t oven s).resetRecord = s.resetRecord ∧ (takeStall src t oven s).cfg = s.cfg ∧
    (takeStall src t oven s).fresh = s.fresh ∧ (takeStall src t oven s).line.state = s.line.state ∧
    (takeStall src t oven s).line.attempt = s.line.attempt ∧
    (takeStall src t oven s).line.ownReturn = s.line.ownReturn ∧
    (takeStall src t oven s).line.score = s.line.score ∧
    (takeStall src t oven s).line.withdrawTimer = s.line.withdrawTimer ∧
    (takeStall src t oven s).line.q0 = s.line.q0 ∧ (takeStall src t oven s).line.q1 = s.line.q1 ∧
    (takeStall src t oven s).line.q2 = s.line.q2 ∧ (takeStall src t oven s).line.q3 = s.line.q3 ∧
    (takeStall src t oven s).line.counters = s.line.counters ∧ (takeStall src t oven s).peer = s.peer ∧
    (takeStall src t oven s).ticket.lastDone = s.ticket.lastDone ∧
    (takeStall src t oven s).ticket.stopFlag = s.ticket.stopFlag ∧
    (takeStall src t oven s).ticket.claim = s.ticket.claim ∧
    (takeStall src t oven s).ticket.pacing = s.ticket.pacing ∧
    (takeStall src t oven s).ticket.backoff = s.ticket.backoff ∧
    (takeStall src t oven s).sched.roster = s.sched.roster ∧
    (takeStall src t oven s).sched.cursor = s.sched.cursor ∧ (takeStall src t oven s).press = s.press ∧
    (takeStall src t oven s).car = s.car ∧ (takeStall src t oven s).store.array = s.store.array ∧
    (takeStall src t oven s).store.queue = s.store.queue ∧ (takeStall src t oven s).store.write = s.store.write ∧
    (takeStall src t oven s).panel.mask = s.panel.mask ∧ (takeStall src t oven s).panel.stopn = s.panel.stopn ∧
    (takeStall src t oven s).panel.reply = s.panel.reply ∧
    (takeStall src t oven s).panel.restartPending = s.panel.restartPending ∧
    (takeStall src t oven s).line.cutOff = s.line.cutOff ∧
    (takeStall src t oven s).line.listener = s.line.listener ∧
    (takeStall src t oven s).panel.transaction = s.panel.transaction := by
  unfold takeStall; (repeat' split) <;> simp

@[simp] theorem takeDone_frame (src : Nat) (t : Ticket) (oven : Nat) (s : State) :
    (takeDone src t oven s).pending = s.pending ∧ (takeDone src t oven s).pins = s.pins ∧
    (takeDone src t oven s).resetRecord = s.resetRecord ∧ (takeDone src t oven s).cfg = s.cfg ∧
    (takeDone src t oven s).fresh = s.fresh ∧ (takeDone src t oven s).line.state = s.line.state ∧
    (takeDone src t oven s).line.ownReturn = s.line.ownReturn ∧
    (takeDone src t oven s).line.score = s.line.score ∧
    (takeDone src t oven s).line.withdrawTimer = s.line.withdrawTimer ∧
    (takeDone src t oven s).line.counters.rxGood = s.line.counters.rxGood ∧
    (takeDone src t oven s).line.counters.rxBad = s.line.counters.rxBad ∧
    (takeDone src t oven s).line.counters.txDone = s.line.counters.txDone ∧
    (takeDone src t oven s).line.counters.txRetry = s.line.counters.txRetry ∧
    (takeDone src t oven s).line.counters.lapses = s.line.counters.lapses ∧
    (takeDone src t oven s).peer = s.peer ∧ (takeDone src t oven s).ticket.stopFlag = s.ticket.stopFlag ∧
    (takeDone src t oven s).sched.roster = s.sched.roster ∧ (takeDone src t oven s).press = s.press ∧
    (takeDone src t oven s).store.array = s.store.array ∧ (takeDone src t oven s).store.queue = s.store.queue ∧
    (takeDone src t oven s).store.write = s.store.write ∧ (takeDone src t oven s).panel.mask = s.panel.mask ∧
    (takeDone src t oven s).panel.stopn = s.panel.stopn ∧ (takeDone src t oven s).panel.reply = s.panel.reply ∧
    (takeDone src t oven s).panel.restartPending = s.panel.restartPending ∧
    (takeDone src t oven s).line.cutOff = s.line.cutOff ∧
    (takeDone src t oven s).line.listener = s.line.listener ∧
    (takeDone src t oven s).panel.transaction = s.panel.transaction := by
  unfold takeDone; (repeat' split) <;> simp

@[simp] theorem takeAbandon_frame (src : Nat) (t : Ticket) (reason : AbandonReason) (s : State) :
    (takeAbandon src t reason s).pending = s.pending ∧ (takeAbandon src t reason s).pins = s.pins ∧
    (takeAbandon src t reason s).resetRecord = s.resetRecord ∧ (takeAbandon src t reason s).cfg = s.cfg ∧
    (takeAbandon src t reason s).fresh = s.fresh ∧ (takeAbandon src t reason s).line.state = s.line.state ∧
    (takeAbandon src t reason s).line.ownReturn = s.line.ownReturn ∧
    (takeAbandon src t reason s).line.score = s.line.score ∧
    (takeAbandon src t reason s).line.withdrawTimer = s.line.withdrawTimer ∧
    (takeAbandon src t reason s).line.counters.rxGood = s.line.counters.rxGood ∧
    (takeAbandon src t reason s).line.counters.rxBad = s.line.counters.rxBad ∧
    (takeAbandon src t reason s).line.counters.txDone = s.line.counters.txDone ∧
    (takeAbandon src t reason s).line.counters.txRetry = s.line.counters.txRetry ∧
    (takeAbandon src t reason s).line.counters.lapses = s.line.counters.lapses ∧
    (takeAbandon src t reason s).peer = s.peer ∧
    (takeAbandon src t reason s).ticket.lastDone = s.ticket.lastDone ∧
    (takeAbandon src t reason s).ticket.stopFlag = s.ticket.stopFlag ∧
    (takeAbandon src t reason s).ticket.pacing = s.ticket.pacing ∧
    (takeAbandon src t reason s).sched.roster = s.sched.roster ∧
    (takeAbandon src t reason s).sched.cursor = s.sched.cursor ∧ (takeAbandon src t reason s).press = s.press ∧
    (takeAbandon src t reason s).store.array = s.store.array ∧
    (takeAbandon src t reason s).store.queue = s.store.queue ∧
    (takeAbandon src t reason s).store.write = s.store.write ∧
    (takeAbandon src t reason s).panel.mask = s.panel.mask ∧
    (takeAbandon src t reason s).panel.stopn = s.panel.stopn ∧
    (takeAbandon src t reason s).panel.reply = s.panel.reply ∧
    (takeAbandon src t reason s).panel.restartPending = s.panel.restartPending ∧
    (takeAbandon src t reason s).line.cutOff = s.line.cutOff ∧
    (takeAbandon src t reason s).line.listener = s.line.listener ∧
    (takeAbandon src t reason s).panel.transaction = s.panel.transaction := by
  simp only [takeAbandon]; (repeat' split) <;> simp

@[simp] theorem admitCharge_frame (oven : Nat) (s : State) :
    (admitCharge oven s).pending = s.pending ∧ (admitCharge oven s).pins = s.pins ∧
    (admitCharge oven s).resetRecord = s.resetRecord ∧ (admitCharge oven s).cfg = s.cfg ∧
    (admitCharge oven s).fresh = s.fresh ∧ (admitCharge oven s).line.state = s.line.state ∧
    (admitCharge oven s).line.ownReturn = s.line.ownReturn ∧ (admitCharge oven s).line.score = s.line.score ∧
    (admitCharge oven s).line.withdrawTimer = s.line.withdrawTimer ∧
    (admitCharge oven s).line.counters.rxGood = s.line.counters.rxGood ∧
    (admitCharge oven s).line.counters.rxBad = s.line.counters.rxBad ∧
    (admitCharge oven s).line.counters.txDone = s.line.counters.txDone ∧
    (admitCharge oven s).line.counters.txRetry = s.line.counters.txRetry ∧
    (admitCharge oven s).line.counters.lapses = s.line.counters.lapses ∧ (admitCharge oven s).peer = s.peer ∧
    (admitCharge oven s).ticket.record = s.ticket.record ∧
    (admitCharge oven s).ticket.lastDone = s.ticket.lastDone ∧
    (admitCharge oven s).ticket.stopFlag = s.ticket.stopFlag ∧
    (admitCharge oven s).ticket.pacing = s.ticket.pacing ∧ (admitCharge oven s).sched.roster = s.sched.roster ∧
    (admitCharge oven s).sched.cursor = s.sched.cursor ∧ (admitCharge oven s).door = s.door ∧
    (admitCharge oven s).press = s.press ∧ (admitCharge oven s).car = s.car ∧
    (admitCharge oven s).store.array = s.store.array ∧ (admitCharge oven s).store.queue = s.store.queue ∧
    (admitCharge oven s).store.write = s.store.write ∧ (admitCharge oven s).panel.mask = s.panel.mask ∧
    (admitCharge oven s).panel.stopn = s.panel.stopn ∧ (admitCharge oven s).panel.reply = s.panel.reply ∧
    (admitCharge oven s).panel.restartPending = s.panel.restartPending ∧
    (admitCharge oven s).line.cutOff = s.line.cutOff ∧ (admitCharge oven s).line.listener = s.line.listener ∧
    (admitCharge oven s).panel.transaction = s.panel.transaction := by
  unfold admitCharge; (repeat' split) <;> simp

@[simp] theorem takeAspirate_frame (src : Nat) (oven : Nat) (s : State) :
    (takeAspirate src oven s).pending = s.pending ∧ (takeAspirate src oven s).pins = s.pins ∧
    (takeAspirate src oven s).resetRecord = s.resetRecord ∧ (takeAspirate src oven s).cfg = s.cfg ∧
    (takeAspirate src oven s).fresh = s.fresh ∧ (takeAspirate src oven s).line.score = s.line.score ∧
    (takeAspirate src oven s).line.counters.rxGood = s.line.counters.rxGood ∧
    (takeAspirate src oven s).line.counters.rxBad = s.line.counters.rxBad ∧
    (takeAspirate src oven s).line.counters.txDone = s.line.counters.txDone ∧
    (takeAspirate src oven s).line.counters.txRetry = s.line.counters.txRetry ∧
    (takeAspirate src oven s).line.counters.lapses = s.line.counters.lapses ∧
    (takeAspirate src oven s).peer.lineMinute = s.peer.lineMinute ∧
    (takeAspirate src oven s).peer.timeBaseMs = s.peer.timeBaseMs ∧
    (takeAspirate src oven s).peer.choice = s.peer.choice ∧ (takeAspirate src oven s).peer.heard = s.peer.heard ∧
    (takeAspirate src oven s).ticket.record = s.ticket.record ∧
    (takeAspirate src oven s).ticket.lastDone = s.ticket.lastDone ∧
    (takeAspirate src oven s).ticket.stopFlag = s.ticket.stopFlag ∧
    (takeAspirate src oven s).sched.roster = s.sched.roster ∧
    (takeAspirate src oven s).sched.cursor = s.sched.cursor ∧ (takeAspirate src oven s).door = s.door ∧
    (takeAspirate src oven s).press.scanTimer = s.press.scanTimer ∧
    (takeAspirate src oven s).press.converting = s.press.converting ∧
    (takeAspirate src oven s).press.channels = s.press.channels ∧
    (takeAspirate src oven s).press.main = s.press.main ∧
    (takeAspirate src oven s).press.dampers = s.press.dampers ∧
    (takeAspirate src oven s).press.driven = s.press.driven ∧
    (takeAspirate src oven s).press.boundary = s.press.boundary ∧
    (takeAspirate src oven s).car.position = s.car.position ∧ (takeAspirate src oven s).car.state = s.car.state ∧
    (takeAspirate src oven s).car.action = s.car.action ∧ (takeAspirate src oven s).car.served = s.car.served ∧
    (takeAspirate src oven s).car.doorHeld = s.car.doorHeld ∧
    (takeAspirate src oven s).car.stallHeld = s.car.stallHeld ∧
    (takeAspirate src oven s).car.faultDeclined = s.car.faultDeclined ∧
    (takeAspirate src oven s).car.actionLimit = s.car.actionLimit ∧
    (takeAspirate src oven s).car.queue = s.car.queue ∧
    (takeAspirate src oven s).car.inProgress = s.car.inProgress ∧
    (takeAspirate src oven s).car.direction = s.car.direction ∧
    (takeAspirate src oven s).car.quench = s.car.quench ∧
    (takeAspirate src oven s).car.hotTravel = s.car.hotTravel ∧
    (takeAspirate src oven s).car.quenchTimer = s.car.quenchTimer ∧
    (takeAspirate src oven s).car.drainTimer = s.car.drainTimer ∧
    (takeAspirate src oven s).car.marker = s.car.marker ∧ (takeAspirate src oven s).car.home = s.car.home ∧
    (takeAspirate src oven s).store.array = s.store.array ∧
    (takeAspirate src oven s).store.queue = s.store.queue ∧
    (takeAspirate src oven s).store.write = s.store.write ∧ (takeAspirate src oven s).panel.mask = s.panel.mask ∧
    (takeAspirate src oven s).panel.stopn = s.panel.stopn ∧
    (takeAspirate src oven s).panel.reply = s.panel.reply ∧
    (takeAspirate src oven s).panel.restartPending = s.panel.restartPending ∧
    (takeAspirate src oven s).line.cutOff = s.line.cutOff ∧
    (takeAspirate src oven s).line.listener = s.line.listener ∧
    (takeAspirate src oven s).car.actionServes = s.car.actionServes ∧
    (takeAspirate src oven s).panel.transaction = s.panel.transaction := by
  simp only [takeAspirate]; (repeat' split) <;> simp

@[simp] theorem takeAspirateEnd_frame (src : Nat) (oven : Nat) (s : State) :
    (takeAspirateEnd src oven s).pending = s.pending ∧ (takeAspirateEnd src oven s).pins = s.pins ∧
    (takeAspirateEnd src oven s).resetRecord = s.resetRecord ∧ (takeAspirateEnd src oven s).cfg = s.cfg ∧
    (takeAspirateEnd src oven s).fresh = s.fresh ∧ (takeAspirateEnd src oven s).line = s.line ∧
    (takeAspirateEnd src oven s).peer = s.peer ∧ (takeAspirateEnd src oven s).ticket = s.ticket ∧
    (takeAspirateEnd src oven s).sched = s.sched ∧ (takeAspirateEnd src oven s).door = s.door ∧
    (takeAspirateEnd src oven s).press.scanTimer = s.press.scanTimer ∧
    (takeAspirateEnd src oven s).press.converting = s.press.converting ∧
    (takeAspirateEnd src oven s).press.channels = s.press.channels ∧
    (takeAspirateEnd src oven s).press.main = s.press.main ∧
    (takeAspirateEnd src oven s).press.dampers = s.press.dampers ∧
    (takeAspirateEnd src oven s).press.driven = s.press.driven ∧
    (takeAspirateEnd src oven s).press.boundary = s.press.boundary ∧
    (takeAspirateEnd src oven s).press.listHold = s.press.listHold ∧ (takeAspirateEnd src oven s).car = s.car ∧
    (takeAspirateEnd src oven s).store = s.store ∧ (takeAspirateEnd src oven s).panel = s.panel := by
  unfold takeAspirateEnd; split <;> simp

@[simp] theorem takeOven_frame (src : Nat) (oven : Nat) (summary : Summary) (minutes : Nat) (s : State) :
    (takeOven src oven summary minutes s).pending = s.pending ∧
    (takeOven src oven summary minutes s).pins = s.pins ∧
    (takeOven src oven summary minutes s).resetRecord = s.resetRecord ∧
    (takeOven src oven summary minutes s).cfg = s.cfg ∧ (takeOven src oven summary minutes s).fresh = s.fresh ∧
    (takeOven src oven summary minutes s).line.score = s.line.score ∧
    (takeOven src oven summary minutes s).line.dropped = s.line.dropped ∧
    (takeOven src oven summary minutes s).line.counters = s.line.counters ∧
    (takeOven src oven summary minutes s).peer.lineMinute = s.peer.lineMinute ∧
    (takeOven src oven summary minutes s).peer.timeBaseMs = s.peer.timeBaseMs ∧
    (takeOven src oven summary minutes s).peer.choice = s.peer.choice ∧
    (takeOven src oven summary minutes s).peer.heard = s.peer.heard ∧
    (takeOven src oven summary minutes s).ticket.record = s.ticket.record ∧
    (takeOven src oven summary minutes s).ticket.lastDone = s.ticket.lastDone ∧
    (takeOven src oven summary minutes s).ticket.stopFlag = s.ticket.stopFlag ∧
    (takeOven src oven summary minutes s).sched.cursor = s.sched.cursor ∧
    (takeOven src oven summary minutes s).door = s.door ∧
    (takeOven src oven summary minutes s).press.scanTimer = s.press.scanTimer ∧
    (takeOven src oven summary minutes s).press.converting = s.press.converting ∧
    (takeOven src oven summary minutes s).press.channels = s.press.channels ∧
    (takeOven src oven summary minutes s).press.main = s.press.main ∧
    (takeOven src oven summary minutes s).press.dampers = s.press.dampers ∧
    (takeOven src oven summary minutes s).press.driven = s.press.driven ∧
    (takeOven src oven summary minutes s).press.boundary = s.press.boundary ∧
    (takeOven src oven summary minutes s).car.position = s.car.position ∧
    (takeOven src oven summary minutes s).car.state = s.car.state ∧
    (takeOven src oven summary minutes s).car.action = s.car.action ∧
    (takeOven src oven summary minutes s).car.served = s.car.served ∧
    (takeOven src oven summary minutes s).car.doorHeld = s.car.doorHeld ∧
    (takeOven src oven summary minutes s).car.stallHeld = s.car.stallHeld ∧
    (takeOven src oven summary minutes s).car.faultDeclined = s.car.faultDeclined ∧
    (takeOven src oven summary minutes s).car.actionLimit = s.car.actionLimit ∧
    (takeOven src oven summary minutes s).car.queue = s.car.queue ∧
    (takeOven src oven summary minutes s).car.inProgress = s.car.inProgress ∧
    (takeOven src oven summary minutes s).car.direction = s.car.direction ∧
    (takeOven src oven summary minutes s).car.quench = s.car.quench ∧
    (takeOven src oven summary minutes s).car.hotTravel = s.car.hotTravel ∧
    (takeOven src oven summary minutes s).car.quenchTimer = s.car.quenchTimer ∧
    (takeOven src oven summary minutes s).car.drainTimer = s.car.drainTimer ∧
    (takeOven src oven summary minutes s).car.marker = s.car.marker ∧
    (takeOven src oven summary minutes s).car.home = s.car.home ∧
    (takeOven src oven summary minutes s).store = s.store ∧
    (takeOven src oven summary minutes s).panel.mask = s.panel.mask ∧
    (takeOven src oven summary minutes s).panel.stopn = s.panel.stopn ∧
    (takeOven src oven summary minutes s).panel.reply = s.panel.reply ∧
    (takeOven src oven summary minutes s).panel.restartPending = s.panel.restartPending ∧
    (takeOven src oven summary minutes s).line.cutOff = s.line.cutOff ∧
    (takeOven src oven summary minutes s).line.listener = s.line.listener ∧
    (takeOven src oven summary minutes s).car.actionServes = s.car.actionServes ∧
    (takeOven src oven summary minutes s).panel.transaction = s.panel.transaction := by
  unfold takeOven; (repeat' split) <;> simp

@[simp] theorem setPeer_frame (n : Nat) (p : Peer) (s : State) :
    (setPeer n p s).pending = s.pending ∧ (setPeer n p s).pins = s.pins ∧
    (setPeer n p s).resetRecord = s.resetRecord ∧ (setPeer n p s).cfg = s.cfg ∧ (setPeer n p s).fresh = s.fresh ∧
    (setPeer n p s).line = s.line ∧ (setPeer n p s).peer.lineMinute = s.peer.lineMinute ∧
    (setPeer n p s).peer.timeBaseMs = s.peer.timeBaseMs ∧
    (setPeer n p s).peer.standingTimer = s.peer.standingTimer ∧
    (setPeer n p s).peer.joinTimer = s.peer.joinTimer ∧ (setPeer n p s).peer.startJoin = s.peer.startJoin ∧
    (setPeer n p s).peer.choice = s.peer.choice ∧ (setPeer n p s).peer.heard = s.peer.heard ∧
    (setPeer n p s).ticket = s.ticket ∧ (setPeer n p s).sched = s.sched ∧ (setPeer n p s).door = s.door ∧
    (setPeer n p s).press = s.press ∧ (setPeer n p s).car = s.car ∧ (setPeer n p s).store = s.store ∧
    (setPeer n p s).panel = s.panel := by
  simp [setPeer]

@[simp] theorem conflictIf_frame (before : State) (s : State) :
    (conflictIf before s).pending = s.pending ∧ (conflictIf before s).pins = s.pins ∧
    (conflictIf before s).resetRecord = s.resetRecord ∧ (conflictIf before s).cfg = s.cfg ∧
    (conflictIf before s).fresh = s.fresh ∧ (conflictIf before s).line = s.line ∧
    (conflictIf before s).peer = s.peer ∧ (conflictIf before s).ticket = s.ticket ∧
    (conflictIf before s).sched = s.sched ∧ (conflictIf before s).door = s.door ∧
    (conflictIf before s).press = s.press ∧ (conflictIf before s).car = s.car ∧
    (conflictIf before s).store = s.store ∧ (conflictIf before s).panel.mask = s.panel.mask ∧
    (conflictIf before s).panel.stopn = s.panel.stopn ∧ (conflictIf before s).panel.reply = s.panel.reply ∧
    (conflictIf before s).panel.restartPending = s.panel.restartPending ∧
    (conflictIf before s).panel.transaction = s.panel.transaction := by
  simp [conflictIf]

@[simp] theorem hearPeer_frame (src : Nat) (b : Standing) (s : State) :
    (hearPeer src b s).pending = s.pending ∧ (hearPeer src b s).pins = s.pins ∧
    (hearPeer src b s).resetRecord = s.resetRecord ∧ (hearPeer src b s).cfg = s.cfg ∧
    (hearPeer src b s).fresh = s.fresh ∧ (hearPeer src b s).line.state = s.line.state ∧
    (hearPeer src b s).line.ownReturn = s.line.ownReturn ∧ (hearPeer src b s).line.score = s.line.score ∧
    (hearPeer src b s).line.withdrawTimer = s.line.withdrawTimer ∧
    (hearPeer src b s).line.counters.rxGood = s.line.counters.rxGood ∧
    (hearPeer src b s).line.counters.rxBad = s.line.counters.rxBad ∧
    (hearPeer src b s).line.counters.txDone = s.line.counters.txDone ∧
    (hearPeer src b s).line.counters.txRetry = s.line.counters.txRetry ∧
    (hearPeer src b s).line.counters.lapses = s.line.counters.lapses ∧
    (hearPeer src b s).peer.lineMinute = s.peer.lineMinute ∧
    (hearPeer src b s).peer.timeBaseMs = s.peer.timeBaseMs ∧
    (hearPeer src b s).peer.standingTimer = s.peer.standingTimer ∧
    (hearPeer src b s).peer.joinTimer = s.peer.joinTimer ∧ (hearPeer src b s).peer.startJoin = s.peer.startJoin ∧
    (hearPeer src b s).peer.choice = s.peer.choice ∧ (hearPeer src b s).peer.heard = s.peer.heard ∧
    (hearPeer src b s).ticket.lastDone = s.ticket.lastDone ∧
    (hearPeer src b s).ticket.stopFlag = s.ticket.stopFlag ∧ (hearPeer src b s).ticket.pacing = s.ticket.pacing ∧
    (hearPeer src b s).sched.cursor = s.sched.cursor ∧ (hearPeer src b s).press = s.press ∧
    (hearPeer src b s).store.array = s.store.array ∧ (hearPeer src b s).store.queue = s.store.queue ∧
    (hearPeer src b s).store.write = s.store.write ∧ (hearPeer src b s).panel.mask = s.panel.mask ∧
    (hearPeer src b s).panel.stopn = s.panel.stopn ∧ (hearPeer src b s).panel.reply = s.panel.reply ∧
    (hearPeer src b s).panel.restartPending = s.panel.restartPending ∧
    (hearPeer src b s).line.cutOff = s.line.cutOff ∧ (hearPeer src b s).line.listener = s.line.listener ∧
    (hearPeer src b s).panel.transaction = s.panel.transaction := by
  simp only [hearPeer]; split <;> simp

@[simp] theorem adoptMinute_frame (src : Nat) (b : Standing) (s : State) :
    (adoptMinute src b s).pending = s.pending ∧ (adoptMinute src b s).pins = s.pins ∧
    (adoptMinute src b s).resetRecord = s.resetRecord ∧ (adoptMinute src b s).cfg = s.cfg ∧
    (adoptMinute src b s).fresh = s.fresh ∧ (adoptMinute src b s).line = s.line ∧
    (adoptMinute src b s).peer.table = s.peer.table ∧
    (adoptMinute src b s).peer.standingTimer = s.peer.standingTimer ∧
    (adoptMinute src b s).peer.joinTimer = s.peer.joinTimer ∧
    (adoptMinute src b s).peer.startJoin = s.peer.startJoin ∧ (adoptMinute src b s).peer.choice = s.peer.choice ∧
    (adoptMinute src b s).peer.heard = s.peer.heard ∧ (adoptMinute src b s).ticket = s.ticket ∧
    (adoptMinute src b s).sched.roster = s.sched.roster ∧ (adoptMinute src b s).sched.cursor = s.sched.cursor ∧
    (adoptMinute src b s).door = s.door ∧ (adoptMinute src b s).press = s.press ∧
    (adoptMinute src b s).car = s.car ∧ (adoptMinute src b s).store.array = s.store.array ∧
    (adoptMinute src b s).store.queue = s.store.queue ∧ (adoptMinute src b s).store.write = s.store.write ∧
    (adoptMinute src b s).panel.mask = s.panel.mask ∧ (adoptMinute src b s).panel.stopn = s.panel.stopn ∧
    (adoptMinute src b s).panel.reply = s.panel.reply ∧
    (adoptMinute src b s).panel.restartPending = s.panel.restartPending ∧
    (adoptMinute src b s).panel.transaction = s.panel.transaction := by
  simp only [adoptMinute]; (repeat' split) <;> simp

@[simp] theorem fillClaimant_frame (src : Nat) (b : Standing) (s : State) :
    (fillClaimant src b s).pending = s.pending ∧ (fillClaimant src b s).pins = s.pins ∧
    (fillClaimant src b s).resetRecord = s.resetRecord ∧ (fillClaimant src b s).cfg = s.cfg ∧
    (fillClaimant src b s).fresh = s.fresh ∧ (fillClaimant src b s).line = s.line ∧
    (fillClaimant src b s).peer = s.peer ∧ (fillClaimant src b s).ticket.lastDone = s.ticket.lastDone ∧
    (fillClaimant src b s).ticket.stopFlag = s.ticket.stopFlag ∧
    (fillClaimant src b s).ticket.claim = s.ticket.claim ∧
    (fillClaimant src b s).ticket.pacing = s.ticket.pacing ∧
    (fillClaimant src b s).ticket.backoff = s.ticket.backoff ∧
    (fillClaimant src b s).ticket.context = s.ticket.context ∧ (fillClaimant src b s).sched = s.sched ∧
    (fillClaimant src b s).door = s.door ∧ (fillClaimant src b s).press = s.press ∧
    (fillClaimant src b s).car = s.car ∧ (fillClaimant src b s).store = s.store ∧
    (fillClaimant src b s).panel = s.panel := by
  simp [fillClaimant]

@[simp] theorem standingTickets_frame (src : Nat) (b : Standing) (s : State) :
    (standingTickets src b s).pending = s.pending ∧ (standingTickets src b s).pins = s.pins ∧
    (standingTickets src b s).resetRecord = s.resetRecord ∧ (standingTickets src b s).cfg = s.cfg ∧
    (standingTickets src b s).fresh = s.fresh ∧ (standingTickets src b s).line.state = s.line.state ∧
    (standingTickets src b s).line.ownReturn = s.line.ownReturn ∧
    (standingTickets src b s).line.score = s.line.score ∧
    (standingTickets src b s).line.withdrawTimer = s.line.withdrawTimer ∧
    (standingTickets src b s).line.counters.rxGood = s.line.counters.rxGood ∧
    (standingTickets src b s).line.counters.rxBad = s.line.counters.rxBad ∧
    (standingTickets src b s).line.counters.txDone = s.line.counters.txDone ∧
    (standingTickets src b s).line.counters.txRetry = s.line.counters.txRetry ∧
    (standingTickets src b s).line.counters.lapses = s.line.counters.lapses ∧
    (standingTickets src b s).peer = s.peer ∧ (standingTickets src b s).ticket.stopFlag = s.ticket.stopFlag ∧
    (standingTickets src b s).sched.roster = s.sched.roster ∧ (standingTickets src b s).press = s.press ∧
    (standingTickets src b s).store.array = s.store.array ∧
    (standingTickets src b s).store.queue = s.store.queue ∧
    (standingTickets src b s).store.write = s.store.write ∧ (standingTickets src b s).panel.mask = s.panel.mask ∧
    (standingTickets src b s).panel.stopn = s.panel.stopn ∧
    (standingTickets src b s).panel.reply = s.panel.reply ∧
    (standingTickets src b s).panel.restartPending = s.panel.restartPending ∧
    (standingTickets src b s).line.cutOff = s.line.cutOff ∧
    (standingTickets src b s).line.listener = s.line.listener ∧
    (standingTickets src b s).panel.transaction = s.panel.transaction := by
  simp only [standingTickets]; (repeat' split) <;> simp

@[simp] theorem standingRoster_frame (src : Nat) (b : Standing) (s : State) :
    (standingRoster src b s).pending = s.pending ∧ (standingRoster src b s).pins = s.pins ∧
    (standingRoster src b s).resetRecord = s.resetRecord ∧ (standingRoster src b s).cfg = s.cfg ∧
    (standingRoster src b s).fresh = s.fresh ∧ (standingRoster src b s).line = s.line ∧
    (standingRoster src b s).peer = s.peer ∧ (standingRoster src b s).ticket = s.ticket ∧
    (standingRoster src b s).sched.ovens = s.sched.ovens ∧
    (standingRoster src b s).sched.cursor = s.sched.cursor ∧ (standingRoster src b s).door = s.door ∧
    (standingRoster src b s).press = s.press ∧ (standingRoster src b s).car = s.car ∧
    (standingRoster src b s).store = s.store ∧ (standingRoster src b s).panel.mask = s.panel.mask ∧
    (standingRoster src b s).panel.stopn = s.panel.stopn ∧ (standingRoster src b s).panel.reply = s.panel.reply ∧
    (standingRoster src b s).panel.restartPending = s.panel.restartPending ∧
    (standingRoster src b s).panel.transaction = s.panel.transaction := by
  unfold standingRoster; (repeat' split) <;> simp

@[simp] theorem standingJoin_frame (b : Standing) (s : State) :
    (standingJoin b s).pending = s.pending ∧ (standingJoin b s).pins = s.pins ∧
    (standingJoin b s).resetRecord = s.resetRecord ∧ (standingJoin b s).cfg = s.cfg ∧
    (standingJoin b s).fresh = s.fresh ∧ (standingJoin b s).line.state = s.line.state ∧
    (standingJoin b s).line.attempt = s.line.attempt ∧ (standingJoin b s).line.ownReturn = s.line.ownReturn ∧
    (standingJoin b s).line.score = s.line.score ∧ (standingJoin b s).line.withdrawTimer = s.line.withdrawTimer ∧
    (standingJoin b s).line.q2 = s.line.q2 ∧ (standingJoin b s).line.q3 = s.line.q3 ∧
    (standingJoin b s).line.dropped = s.line.dropped ∧ (standingJoin b s).line.counters = s.line.counters ∧
    (standingJoin b s).peer.table = s.peer.table ∧ (standingJoin b s).peer.lineMinute = s.peer.lineMinute ∧
    (standingJoin b s).peer.timeBaseMs = s.peer.timeBaseMs ∧
    (standingJoin b s).peer.standingTimer = s.peer.standingTimer ∧
    (standingJoin b s).peer.joinTimer = s.peer.joinTimer ∧ (standingJoin b s).peer.startJoin = s.peer.startJoin ∧
    (standingJoin b s).ticket.record = s.ticket.record ∧ (standingJoin b s).ticket.lastDone = s.ticket.lastDone ∧
    (standingJoin b s).ticket.pacing = s.ticket.pacing ∧ (standingJoin b s).sched.roster = s.sched.roster ∧
    (standingJoin b s).sched.cursor = s.sched.cursor ∧ (standingJoin b s).door = s.door ∧
    (standingJoin b s).press = s.press ∧ (standingJoin b s).car.position = s.car.position ∧
    (standingJoin b s).car.state = s.car.state ∧ (standingJoin b s).car.action = s.car.action ∧
    (standingJoin b s).car.served = s.car.served ∧ (standingJoin b s).car.doorHeld = s.car.doorHeld ∧
    (standingJoin b s).car.stallHeld = s.car.stallHeld ∧
    (standingJoin b s).car.faultDeclined = s.car.faultDeclined ∧
    (standingJoin b s).car.actionLimit = s.car.actionLimit ∧ (standingJoin b s).car.queue = s.car.queue ∧
    (standingJoin b s).car.inProgress = s.car.inProgress ∧ (standingJoin b s).car.direction = s.car.direction ∧
    (standingJoin b s).car.quench = s.car.quench ∧ (standingJoin b s).car.hotTravel = s.car.hotTravel ∧
    (standingJoin b s).car.quenchTimer = s.car.quenchTimer ∧
    (standingJoin b s).car.drainTimer = s.car.drainTimer ∧ (standingJoin b s).car.marker = s.car.marker ∧
    (standingJoin b s).car.home = s.car.home ∧ (standingJoin b s).store = s.store ∧
    (standingJoin b s).panel = s.panel ∧ (standingJoin b s).line.cutOff = s.line.cutOff ∧
    (standingJoin b s).line.listener = s.line.listener ∧ (standingJoin b s).car.actionServes = s.car.actionServes := by
  simp only [standingJoin]; (repeat' split) <;> simp

@[simp] theorem takeStanding_frame (src : Nat) (b : Standing) (s : State) :
    (takeStanding src b s).pending = s.pending ∧ (takeStanding src b s).pins = s.pins ∧
    (takeStanding src b s).resetRecord = s.resetRecord ∧ (takeStanding src b s).cfg = s.cfg ∧
    (takeStanding src b s).fresh = s.fresh ∧ (takeStanding src b s).line.score = s.line.score ∧
    (takeStanding src b s).line.counters.rxGood = s.line.counters.rxGood ∧
    (takeStanding src b s).line.counters.rxBad = s.line.counters.rxBad ∧
    (takeStanding src b s).line.counters.txDone = s.line.counters.txDone ∧
    (takeStanding src b s).line.counters.txRetry = s.line.counters.txRetry ∧
    (takeStanding src b s).line.counters.lapses = s.line.counters.lapses ∧
    (takeStanding src b s).press.scanTimer = s.press.scanTimer ∧
    (takeStanding src b s).press.converting = s.press.converting ∧
    (takeStanding src b s).press.channels = s.press.channels ∧ (takeStanding src b s).press.main = s.press.main ∧
    (takeStanding src b s).press.dampers = s.press.dampers ∧
    (takeStanding src b s).press.driven = s.press.driven ∧
    (takeStanding src b s).press.boundary = s.press.boundary ∧
    (takeStanding src b s).store.array = s.store.array ∧ (takeStanding src b s).store.queue = s.store.queue ∧
    (takeStanding src b s).store.write = s.store.write ∧ (takeStanding src b s).panel.mask = s.panel.mask ∧
    (takeStanding src b s).panel.stopn = s.panel.stopn ∧ (takeStanding src b s).panel.reply = s.panel.reply ∧
    (takeStanding src b s).panel.restartPending = s.panel.restartPending ∧
    (takeStanding src b s).line.cutOff = s.line.cutOff ∧ (takeStanding src b s).line.listener = s.line.listener ∧
    (takeStanding src b s).panel.transaction = s.panel.transaction := by
  unfold takeStanding; (repeat' split) <;> simp

end Sys2Proof.Machine
end

