-- ==== Sys2Proof/Laws/FrameCommands.lean ====
section
/-! SUPPORT. What each shared operation of the commands leaves unchanged: one lemma each, all of it a simp set. -/

namespace Sys2Proof.Machine

@[simp] theorem startHaltIn_frame (l : LineState) (s : State) :
    (startHaltIn l s).pending = s.pending ∧ (startHaltIn l s).pins = s.pins ∧
    (startHaltIn l s).resetRecord = s.resetRecord ∧ (startHaltIn l s).cfg = s.cfg ∧
    (startHaltIn l s).fresh = s.fresh ∧ (startHaltIn l s).line.attempt = s.line.attempt ∧
    (startHaltIn l s).line.ownReturn = s.line.ownReturn ∧ (startHaltIn l s).line.score = s.line.score ∧
    (startHaltIn l s).line.withdrawTimer = s.line.withdrawTimer ∧ (startHaltIn l s).line.q0 = s.line.q0 ∧
    (startHaltIn l s).line.q1 = s.line.q1 ∧ (startHaltIn l s).line.q2 = s.line.q2 ∧
    (startHaltIn l s).line.q3 = s.line.q3 ∧ (startHaltIn l s).line.dropped = s.line.dropped ∧
    (startHaltIn l s).line.counters = s.line.counters ∧ (startHaltIn l s).peer = s.peer ∧
    (startHaltIn l s).ticket = s.ticket ∧ (startHaltIn l s).sched = s.sched ∧ (startHaltIn l s).door = s.door ∧
    (startHaltIn l s).press = s.press ∧ (startHaltIn l s).car = s.car ∧ (startHaltIn l s).store = s.store ∧
    (startHaltIn l s).panel.mask = s.panel.mask ∧ (startHaltIn l s).panel.stopn = s.panel.stopn ∧
    (startHaltIn l s).panel.reply = s.panel.reply ∧
    (startHaltIn l s).panel.restartPending = s.panel.restartPending ∧
    (startHaltIn l s).line.cutOff = s.line.cutOff ∧ (startHaltIn l s).line.listener = s.line.listener ∧
    (startHaltIn l s).panel.transaction = s.panel.transaction := by
  simp [startHaltIn]

@[simp] theorem recordCounts_frame (good : Nat) (total : Nat) (s : State) :
    (recordCounts good total s).pending = s.pending ∧ (recordCounts good total s).pins = s.pins ∧
    (recordCounts good total s).cfg = s.cfg ∧ (recordCounts good total s).fresh = s.fresh ∧
    (recordCounts good total s).line = s.line ∧ (recordCounts good total s).peer = s.peer ∧
    (recordCounts good total s).ticket = s.ticket ∧ (recordCounts good total s).sched = s.sched ∧
    (recordCounts good total s).door = s.door ∧ (recordCounts good total s).press = s.press ∧
    (recordCounts good total s).car = s.car ∧ (recordCounts good total s).store = s.store ∧
    (recordCounts good total s).panel.mask = s.panel.mask ∧
    (recordCounts good total s).panel.stopn = s.panel.stopn ∧
    (recordCounts good total s).panel.reply = s.panel.reply ∧
    (recordCounts good total s).panel.restartPending = s.panel.restartPending ∧
    (recordCounts good total s).panel.transaction = s.panel.transaction := by
  simp [recordCounts]

@[simp] theorem beginAttempt_frame (s : State) :
    (beginAttempt s).pending = s.pending ∧ (beginAttempt s).pins = s.pins ∧
    (beginAttempt s).resetRecord = s.resetRecord ∧ (beginAttempt s).cfg = s.cfg ∧
    (beginAttempt s).fresh = s.fresh ∧ (beginAttempt s).line.state = s.line.state ∧
    (beginAttempt s).line.ownReturn = s.line.ownReturn ∧ (beginAttempt s).line.score = s.line.score ∧
    (beginAttempt s).line.withdrawTimer = s.line.withdrawTimer ∧ (beginAttempt s).line.q0 = s.line.q0 ∧
    (beginAttempt s).line.q1 = s.line.q1 ∧ (beginAttempt s).line.q2 = s.line.q2 ∧
    (beginAttempt s).line.q3 = s.line.q3 ∧ (beginAttempt s).line.dropped = s.line.dropped ∧
    (beginAttempt s).line.counters = s.line.counters ∧ (beginAttempt s).peer = s.peer ∧
    (beginAttempt s).ticket = s.ticket ∧ (beginAttempt s).sched = s.sched ∧ (beginAttempt s).door = s.door ∧
    (beginAttempt s).press = s.press ∧ (beginAttempt s).car = s.car ∧ (beginAttempt s).store = s.store ∧
    (beginAttempt s).panel = s.panel ∧ (beginAttempt s).line.listener = s.line.listener := by
  unfold beginAttempt; (repeat' split) <;> simp

@[simp] theorem loseAttempt_frame (a : Attempt) (s : State) :
    (loseAttempt a s).pending = s.pending ∧ (loseAttempt a s).pins = s.pins ∧
    (loseAttempt a s).resetRecord = s.resetRecord ∧ (loseAttempt a s).cfg = s.cfg ∧
    (loseAttempt a s).fresh = s.fresh ∧ (loseAttempt a s).line.state = s.line.state ∧
    (loseAttempt a s).line.ownReturn = s.line.ownReturn ∧ (loseAttempt a s).line.score = s.line.score ∧
    (loseAttempt a s).line.withdrawTimer = s.line.withdrawTimer ∧
    (loseAttempt a s).line.dropped = s.line.dropped ∧ (loseAttempt a s).line.counters = s.line.counters ∧
    (loseAttempt a s).peer = s.peer ∧ (loseAttempt a s).ticket.record = s.ticket.record ∧
    (loseAttempt a s).ticket.lastDone = s.ticket.lastDone ∧
    (loseAttempt a s).ticket.stopFlag = s.ticket.stopFlag ∧ (loseAttempt a s).ticket.pacing = s.ticket.pacing ∧
    (loseAttempt a s).sched.roster = s.sched.roster ∧ (loseAttempt a s).sched.cursor = s.sched.cursor ∧
    (loseAttempt a s).door = s.door ∧ (loseAttempt a s).press = s.press ∧ (loseAttempt a s).car = s.car ∧
    (loseAttempt a s).store = s.store ∧ (loseAttempt a s).panel = s.panel ∧
    (loseAttempt a s).line.cutOff = s.line.cutOff ∧ (loseAttempt a s).line.listener = s.line.listener := by
  simp only [loseAttempt]; (repeat' split) <;> simp

@[simp] theorem failAttempt_frame (a : Attempt) (s : State) :
    (failAttempt a s).pending = s.pending ∧ (failAttempt a s).pins = s.pins ∧
    (failAttempt a s).resetRecord = s.resetRecord ∧ (failAttempt a s).cfg = s.cfg ∧
    (failAttempt a s).fresh = s.fresh ∧ (failAttempt a s).line.state = s.line.state ∧
    (failAttempt a s).line.ownReturn = s.line.ownReturn ∧
    (failAttempt a s).line.withdrawTimer = s.line.withdrawTimer ∧
    (failAttempt a s).line.counters.rxGood = s.line.counters.rxGood ∧
    (failAttempt a s).line.counters.rxBad = s.line.counters.rxBad ∧
    (failAttempt a s).line.counters.txDone = s.line.counters.txDone ∧
    (failAttempt a s).line.counters.lapses = s.line.counters.lapses ∧ (failAttempt a s).peer = s.peer ∧
    (failAttempt a s).ticket.record = s.ticket.record ∧ (failAttempt a s).ticket.lastDone = s.ticket.lastDone ∧
    (failAttempt a s).ticket.stopFlag = s.ticket.stopFlag ∧ (failAttempt a s).ticket.pacing = s.ticket.pacing ∧
    (failAttempt a s).sched.roster = s.sched.roster ∧ (failAttempt a s).sched.cursor = s.sched.cursor ∧
    (failAttempt a s).door = s.door ∧ (failAttempt a s).press = s.press ∧ (failAttempt a s).car = s.car ∧
    (failAttempt a s).store = s.store ∧ (failAttempt a s).panel.mask = s.panel.mask ∧
    (failAttempt a s).panel.stopn = s.panel.stopn ∧ (failAttempt a s).panel.reply = s.panel.reply ∧
    (failAttempt a s).panel.restartPending = s.panel.restartPending ∧
    (failAttempt a s).line.listener = s.line.listener ∧ (failAttempt a s).panel.transaction = s.panel.transaction := by
  simp only [failAttempt]; (repeat' split) <;> simp

@[simp] theorem transmitErrorTaken_frame (a : Attempt) (s : State) :
    (transmitErrorTaken a s).pending = s.pending ∧ (transmitErrorTaken a s).pins = s.pins ∧
    (transmitErrorTaken a s).resetRecord = s.resetRecord ∧ (transmitErrorTaken a s).cfg = s.cfg ∧
    (transmitErrorTaken a s).fresh = s.fresh ∧ (transmitErrorTaken a s).line.ownReturn = s.line.ownReturn ∧
    (transmitErrorTaken a s).line.counters.rxGood = s.line.counters.rxGood ∧
    (transmitErrorTaken a s).line.counters.rxBad = s.line.counters.rxBad ∧
    (transmitErrorTaken a s).line.counters.txDone = s.line.counters.txDone ∧
    (transmitErrorTaken a s).line.counters.lapses = s.line.counters.lapses ∧
    (transmitErrorTaken a s).peer.table = s.peer.table ∧
    (transmitErrorTaken a s).peer.lineMinute = s.peer.lineMinute ∧
    (transmitErrorTaken a s).peer.timeBaseMs = s.peer.timeBaseMs ∧
    (transmitErrorTaken a s).peer.joinTimer = s.peer.joinTimer ∧
    (transmitErrorTaken a s).peer.startJoin = s.peer.startJoin ∧
    (transmitErrorTaken a s).peer.choice = s.peer.choice ∧ (transmitErrorTaken a s).peer.heard = s.peer.heard ∧
    (transmitErrorTaken a s).ticket.lastDone = s.ticket.lastDone ∧
    (transmitErrorTaken a s).ticket.stopFlag = s.ticket.stopFlag ∧
    (transmitErrorTaken a s).ticket.pacing = s.ticket.pacing ∧
    (transmitErrorTaken a s).sched.roster = s.sched.roster ∧
    (transmitErrorTaken a s).sched.cursor = s.sched.cursor ∧ (transmitErrorTaken a s).press = s.press ∧
    (transmitErrorTaken a s).store.array = s.store.array ∧ (transmitErrorTaken a s).store.queue = s.store.queue ∧
    (transmitErrorTaken a s).store.write = s.store.write ∧ (transmitErrorTaken a s).panel.mask = s.panel.mask ∧
    (transmitErrorTaken a s).panel.stopn = s.panel.stopn ∧ (transmitErrorTaken a s).panel.reply = s.panel.reply ∧
    (transmitErrorTaken a s).panel.restartPending = s.panel.restartPending ∧
    (transmitErrorTaken a s).line.listener = s.line.listener ∧
    (transmitErrorTaken a s).panel.transaction = s.panel.transaction := by
  simp only [transmitErrorTaken]; split <;> simp

@[simp] theorem completeAttempt_frame (a : Attempt) (s : State) :
    (completeAttempt a s).pending = s.pending ∧ (completeAttempt a s).pins = s.pins ∧
    (completeAttempt a s).resetRecord = s.resetRecord ∧ (completeAttempt a s).cfg = s.cfg ∧
    (completeAttempt a s).fresh = s.fresh ∧ (completeAttempt a s).line.state = s.line.state ∧
    (completeAttempt a s).line.withdrawTimer = s.line.withdrawTimer ∧
    (completeAttempt a s).line.counters.rxGood = s.line.counters.rxGood ∧
    (completeAttempt a s).line.counters.rxBad = s.line.counters.rxBad ∧
    (completeAttempt a s).line.counters.txRetry = s.line.counters.txRetry ∧
    (completeAttempt a s).line.counters.lapses = s.line.counters.lapses ∧ (completeAttempt a s).peer = s.peer ∧
    (completeAttempt a s).ticket.record = s.ticket.record ∧
    (completeAttempt a s).ticket.lastDone = s.ticket.lastDone ∧
    (completeAttempt a s).ticket.stopFlag = s.ticket.stopFlag ∧
    (completeAttempt a s).ticket.pacing = s.ticket.pacing ∧ (completeAttempt a s).sched.roster = s.sched.roster ∧
    (completeAttempt a s).sched.cursor = s.sched.cursor ∧ (completeAttempt a s).door = s.door ∧
    (completeAttempt a s).press = s.press ∧ (completeAttempt a s).car = s.car ∧
    (completeAttempt a s).store = s.store ∧ (completeAttempt a s).panel.mask = s.panel.mask ∧
    (completeAttempt a s).panel.stopn = s.panel.stopn ∧ (completeAttempt a s).panel.reply = s.panel.reply ∧
    (completeAttempt a s).panel.restartPending = s.panel.restartPending ∧
    (completeAttempt a s).line.cutOff = s.line.cutOff ∧ (completeAttempt a s).line.listener = s.line.listener ∧
    (completeAttempt a s).panel.transaction = s.panel.transaction := by
  simp only [completeAttempt]; split <;> simp

@[simp] theorem endWithdrawal_frame (s : State) :
    (endWithdrawal s).pending = s.pending ∧ (endWithdrawal s).pins = s.pins ∧
    (endWithdrawal s).resetRecord = s.resetRecord ∧ (endWithdrawal s).cfg = s.cfg ∧
    (endWithdrawal s).fresh = s.fresh ∧ (endWithdrawal s).line.attempt = s.line.attempt ∧
    (endWithdrawal s).line.ownReturn = s.line.ownReturn ∧ (endWithdrawal s).line.dropped = s.line.dropped ∧
    (endWithdrawal s).line.counters = s.line.counters ∧ (endWithdrawal s).peer.table = s.peer.table ∧
    (endWithdrawal s).peer.lineMinute = s.peer.lineMinute ∧
    (endWithdrawal s).peer.timeBaseMs = s.peer.timeBaseMs ∧
    (endWithdrawal s).peer.standingTimer = s.peer.standingTimer ∧ (endWithdrawal s).ticket = s.ticket ∧
    (endWithdrawal s).sched = s.sched ∧ (endWithdrawal s).door = s.door ∧
    (endWithdrawal s).press.scanTimer = s.press.scanTimer ∧
    (endWithdrawal s).press.converting = s.press.converting ∧
    (endWithdrawal s).press.channels = s.press.channels ∧ (endWithdrawal s).press.main = s.press.main ∧
    (endWithdrawal s).press.dampers = s.press.dampers ∧ (endWithdrawal s).press.driven = s.press.driven ∧
    (endWithdrawal s).press.boundary = s.press.boundary ∧ (endWithdrawal s).press.entries = s.press.entries ∧
    (endWithdrawal s).car = s.car ∧ (endWithdrawal s).store = s.store ∧ (endWithdrawal s).panel = s.panel ∧
    (endWithdrawal s).line.cutOff = s.line.cutOff ∧ (endWithdrawal s).line.listener = s.line.listener := by
  simp [endWithdrawal]

@[simp] theorem lapsePeer_frame (n : Nat) (s : State) :
    (lapsePeer n s).pending = s.pending ∧ (lapsePeer n s).pins = s.pins ∧
    (lapsePeer n s).resetRecord = s.resetRecord ∧ (lapsePeer n s).cfg = s.cfg ∧ (lapsePeer n s).fresh = s.fresh ∧
    (lapsePeer n s).line.state = s.line.state ∧ (lapsePeer n s).line.ownReturn = s.line.ownReturn ∧
    (lapsePeer n s).line.score = s.line.score ∧ (lapsePeer n s).line.withdrawTimer = s.line.withdrawTimer ∧
    (lapsePeer n s).line.counters.rxGood = s.line.counters.rxGood ∧
    (lapsePeer n s).line.counters.rxBad = s.line.counters.rxBad ∧
    (lapsePeer n s).line.counters.txDone = s.line.counters.txDone ∧
    (lapsePeer n s).line.counters.txRetry = s.line.counters.txRetry ∧
    (lapsePeer n s).peer.lineMinute = s.peer.lineMinute ∧ (lapsePeer n s).peer.timeBaseMs = s.peer.timeBaseMs ∧
    (lapsePeer n s).peer.standingTimer = s.peer.standingTimer ∧
    (lapsePeer n s).peer.joinTimer = s.peer.joinTimer ∧ (lapsePeer n s).peer.startJoin = s.peer.startJoin ∧
    (lapsePeer n s).peer.choice = s.peer.choice ∧ (lapsePeer n s).peer.heard = s.peer.heard ∧
    (lapsePeer n s).ticket.lastDone = s.ticket.lastDone ∧ (lapsePeer n s).ticket.stopFlag = s.ticket.stopFlag ∧
    (lapsePeer n s).ticket.pacing = s.ticket.pacing ∧ (lapsePeer n s).sched.cursor = s.sched.cursor ∧
    (lapsePeer n s).press = s.press ∧ (lapsePeer n s).store.array = s.store.array ∧
    (lapsePeer n s).store.queue = s.store.queue ∧ (lapsePeer n s).store.write = s.store.write ∧
    (lapsePeer n s).panel.mask = s.panel.mask ∧ (lapsePeer n s).panel.stopn = s.panel.stopn ∧
    (lapsePeer n s).panel.reply = s.panel.reply ∧ (lapsePeer n s).panel.restartPending = s.panel.restartPending ∧
    (lapsePeer n s).line.cutOff = s.line.cutOff ∧ (lapsePeer n s).line.listener = s.line.listener ∧
    (lapsePeer n s).panel.transaction = s.panel.transaction := by
  simp only [lapsePeer]; split <;> simp

@[simp] theorem advanceMinute_frame (s : State) :
    (advanceMinute s).pending = s.pending ∧ (advanceMinute s).pins = s.pins ∧
    (advanceMinute s).resetRecord = s.resetRecord ∧ (advanceMinute s).cfg = s.cfg ∧
    (advanceMinute s).fresh = s.fresh ∧ (advanceMinute s).line = s.line ∧
    (advanceMinute s).peer.table = s.peer.table ∧ (advanceMinute s).peer.standingTimer = s.peer.standingTimer ∧
    (advanceMinute s).peer.joinTimer = s.peer.joinTimer ∧ (advanceMinute s).peer.startJoin = s.peer.startJoin ∧
    (advanceMinute s).peer.choice = s.peer.choice ∧ (advanceMinute s).peer.heard = s.peer.heard ∧
    (advanceMinute s).ticket = s.ticket ∧ (advanceMinute s).sched.roster = s.sched.roster ∧
    (advanceMinute s).sched.cursor = s.sched.cursor ∧ (advanceMinute s).door = s.door ∧
    (advanceMinute s).press = s.press ∧ (advanceMinute s).car = s.car ∧
    (advanceMinute s).store.array = s.store.array ∧ (advanceMinute s).store.queue = s.store.queue ∧
    (advanceMinute s).store.write = s.store.write ∧ (advanceMinute s).panel.mask = s.panel.mask ∧
    (advanceMinute s).panel.stopn = s.panel.stopn ∧ (advanceMinute s).panel.reply = s.panel.reply ∧
    (advanceMinute s).panel.restartPending = s.panel.restartPending ∧
    (advanceMinute s).panel.transaction = s.panel.transaction := by
  simp only [advanceMinute]; (repeat' split) <;> simp

@[simp] theorem assentExpires_frame (s : State) :
    (assentExpires s).pending = s.pending ∧ (assentExpires s).pins = s.pins ∧
    (assentExpires s).resetRecord = s.resetRecord ∧ (assentExpires s).cfg = s.cfg ∧
    (assentExpires s).fresh = s.fresh ∧ (assentExpires s).line.state = s.line.state ∧
    (assentExpires s).line.ownReturn = s.line.ownReturn ∧ (assentExpires s).line.score = s.line.score ∧
    (assentExpires s).line.withdrawTimer = s.line.withdrawTimer ∧
    (assentExpires s).line.counters.rxGood = s.line.counters.rxGood ∧
    (assentExpires s).line.counters.rxBad = s.line.counters.rxBad ∧
    (assentExpires s).line.counters.txDone = s.line.counters.txDone ∧
    (assentExpires s).line.counters.txRetry = s.line.counters.txRetry ∧
    (assentExpires s).line.counters.lapses = s.line.counters.lapses ∧ (assentExpires s).peer = s.peer ∧
    (assentExpires s).ticket.lastDone = s.ticket.lastDone ∧
    (assentExpires s).ticket.stopFlag = s.ticket.stopFlag ∧ (assentExpires s).ticket.pacing = s.ticket.pacing ∧
    (assentExpires s).sched.roster = s.sched.roster ∧ (assentExpires s).sched.cursor = s.sched.cursor ∧
    (assentExpires s).door = s.door ∧ (assentExpires s).press = s.press ∧ (assentExpires s).car = s.car ∧
    (assentExpires s).store = s.store ∧ (assentExpires s).panel.mask = s.panel.mask ∧
    (assentExpires s).panel.stopn = s.panel.stopn ∧ (assentExpires s).panel.reply = s.panel.reply ∧
    (assentExpires s).panel.restartPending = s.panel.restartPending ∧
    (assentExpires s).line.cutOff = s.line.cutOff ∧ (assentExpires s).line.listener = s.line.listener ∧
    (assentExpires s).panel.transaction = s.panel.transaction := by
  simp only [assentExpires]; split <;> simp

@[simp] theorem spotExpires_frame (s : State) :
    (spotExpires s).pending = s.pending ∧ (spotExpires s).pins = s.pins ∧
    (spotExpires s).resetRecord = s.resetRecord ∧ (spotExpires s).cfg = s.cfg ∧ (spotExpires s).fresh = s.fresh ∧
    (spotExpires s).line.state = s.line.state ∧ (spotExpires s).line.ownReturn = s.line.ownReturn ∧
    (spotExpires s).line.score = s.line.score ∧ (spotExpires s).line.withdrawTimer = s.line.withdrawTimer ∧
    (spotExpires s).line.counters.rxGood = s.line.counters.rxGood ∧
    (spotExpires s).line.counters.rxBad = s.line.counters.rxBad ∧
    (spotExpires s).line.counters.txDone = s.line.counters.txDone ∧
    (spotExpires s).line.counters.txRetry = s.line.counters.txRetry ∧
    (spotExpires s).line.counters.lapses = s.line.counters.lapses ∧ (spotExpires s).peer = s.peer ∧
    (spotExpires s).ticket.lastDone = s.ticket.lastDone ∧ (spotExpires s).ticket.stopFlag = s.ticket.stopFlag ∧
    (spotExpires s).ticket.pacing = s.ticket.pacing ∧ (spotExpires s).sched.roster = s.sched.roster ∧
    (spotExpires s).sched.cursor = s.sched.cursor ∧ (spotExpires s).door = s.door ∧
    (spotExpires s).press = s.press ∧ (spotExpires s).car = s.car ∧ (spotExpires s).store = s.store ∧
    (spotExpires s).panel.mask = s.panel.mask ∧ (spotExpires s).panel.stopn = s.panel.stopn ∧
    (spotExpires s).panel.reply = s.panel.reply ∧ (spotExpires s).panel.restartPending = s.panel.restartPending ∧
    (spotExpires s).line.cutOff = s.line.cutOff ∧ (spotExpires s).line.listener = s.line.listener ∧
    (spotExpires s).panel.transaction = s.panel.transaction := by
  simp only [spotExpires]; split <;> simp

@[simp] theorem doorOffExpires_frame (s : State) :
    (doorOffExpires s).pending = s.pending ∧ (doorOffExpires s).pins = s.pins ∧
    (doorOffExpires s).resetRecord = s.resetRecord ∧ (doorOffExpires s).cfg = s.cfg ∧
    (doorOffExpires s).fresh = s.fresh ∧ (doorOffExpires s).line.state = s.line.state ∧
    (doorOffExpires s).line.ownReturn = s.line.ownReturn ∧ (doorOffExpires s).line.score = s.line.score ∧
    (doorOffExpires s).line.withdrawTimer = s.line.withdrawTimer ∧
    (doorOffExpires s).line.counters.rxGood = s.line.counters.rxGood ∧
    (doorOffExpires s).line.counters.rxBad = s.line.counters.rxBad ∧
    (doorOffExpires s).line.counters.txDone = s.line.counters.txDone ∧
    (doorOffExpires s).line.counters.txRetry = s.line.counters.txRetry ∧
    (doorOffExpires s).line.counters.lapses = s.line.counters.lapses ∧ (doorOffExpires s).peer = s.peer ∧
    (doorOffExpires s).ticket.lastDone = s.ticket.lastDone ∧
    (doorOffExpires s).ticket.stopFlag = s.ticket.stopFlag ∧ (doorOffExpires s).ticket.pacing = s.ticket.pacing ∧
    (doorOffExpires s).sched.roster = s.sched.roster ∧ (doorOffExpires s).sched.cursor = s.sched.cursor ∧
    (doorOffExpires s).door = s.door ∧ (doorOffExpires s).press = s.press ∧ (doorOffExpires s).car = s.car ∧
    (doorOffExpires s).store = s.store ∧ (doorOffExpires s).panel.mask = s.panel.mask ∧
    (doorOffExpires s).panel.stopn = s.panel.stopn ∧ (doorOffExpires s).panel.reply = s.panel.reply ∧
    (doorOffExpires s).panel.restartPending = s.panel.restartPending ∧
    (doorOffExpires s).line.cutOff = s.line.cutOff ∧ (doorOffExpires s).line.listener = s.line.listener ∧
    (doorOffExpires s).panel.transaction = s.panel.transaction := by
  simp [doorOffExpires]

@[simp] theorem mapDoorLine_frame (slot : Nat) (side : Side) (l : DoorLine) (f : Rejected → Rejected) (s : State) :
    (mapDoorLine slot side l f s).pending = s.pending ∧ (mapDoorLine slot side l f s).pins = s.pins ∧
    (mapDoorLine slot side l f s).resetRecord = s.resetRecord ∧ (mapDoorLine slot side l f s).cfg = s.cfg ∧
    (mapDoorLine slot side l f s).fresh = s.fresh ∧ (mapDoorLine slot side l f s).line = s.line ∧
    (mapDoorLine slot side l f s).peer = s.peer ∧ (mapDoorLine slot side l f s).ticket = s.ticket ∧
    (mapDoorLine slot side l f s).sched = s.sched ∧ (mapDoorLine slot side l f s).press = s.press ∧
    (mapDoorLine slot side l f s).car = s.car ∧ (mapDoorLine slot side l f s).store = s.store ∧
    (mapDoorLine slot side l f s).panel.mask = s.panel.mask ∧
    (mapDoorLine slot side l f s).panel.stopn = s.panel.stopn ∧
    (mapDoorLine slot side l f s).panel.reply = s.panel.reply ∧
    (mapDoorLine slot side l f s).panel.restartPending = s.panel.restartPending ∧
    (mapDoorLine slot side l f s).panel.transaction = s.panel.transaction := by
  unfold mapDoorLine; split <;> simp

@[simp] theorem mapRejected_frame (l : RejectLine) (f : Rejected → Rejected) (s : State) :
    (mapRejected l f s).pending = s.pending ∧ (mapRejected l f s).pins = s.pins ∧
    (mapRejected l f s).resetRecord = s.resetRecord ∧ (mapRejected l f s).cfg = s.cfg ∧
    (mapRejected l f s).fresh = s.fresh ∧ (mapRejected l f s).line = s.line ∧ (mapRejected l f s).peer = s.peer ∧
    (mapRejected l f s).ticket = s.ticket ∧ (mapRejected l f s).sched = s.sched ∧
    (mapRejected l f s).press = s.press ∧ (mapRejected l f s).car.position = s.car.position ∧
    (mapRejected l f s).car.state = s.car.state ∧ (mapRejected l f s).car.action = s.car.action ∧
    (mapRejected l f s).car.served = s.car.served ∧ (mapRejected l f s).car.doorHeld = s.car.doorHeld ∧
    (mapRejected l f s).car.stallHeld = s.car.stallHeld ∧
    (mapRejected l f s).car.faultDeclined = s.car.faultDeclined ∧
    (mapRejected l f s).car.markerLimit = s.car.markerLimit ∧
    (mapRejected l f s).car.actionLimit = s.car.actionLimit ∧ (mapRejected l f s).car.queue = s.car.queue ∧
    (mapRejected l f s).car.inProgress = s.car.inProgress ∧ (mapRejected l f s).car.direction = s.car.direction ∧
    (mapRejected l f s).car.quench = s.car.quench ∧ (mapRejected l f s).car.hotTravel = s.car.hotTravel ∧
    (mapRejected l f s).car.quenchTimer = s.car.quenchTimer ∧
    (mapRejected l f s).car.drainTimer = s.car.drainTimer ∧ (mapRejected l f s).store = s.store ∧
    (mapRejected l f s).panel.mask = s.panel.mask ∧ (mapRejected l f s).panel.reply = s.panel.reply ∧
    (mapRejected l f s).panel.restartPending = s.panel.restartPending ∧
    (mapRejected l f s).car.actionServes = s.car.actionServes ∧
    (mapRejected l f s).panel.transaction = s.panel.transaction := by
  unfold mapRejected; split <;> simp

@[simp] theorem latchChange_frame (k : Nat) (slot : Nat) (side : Side) (level : Bool) (s : State) :
    (latchChange k slot side level s).pending = s.pending ∧ (latchChange k slot side level s).pins = s.pins ∧
    (latchChange k slot side level s).resetRecord = s.resetRecord ∧
    (latchChange k slot side level s).cfg = s.cfg ∧ (latchChange k slot side level s).fresh = s.fresh ∧
    (latchChange k slot side level s).line = s.line ∧ (latchChange k slot side level s).peer = s.peer ∧
    (latchChange k slot side level s).ticket = s.ticket ∧ (latchChange k slot side level s).sched = s.sched ∧
    (latchChange k slot side level s).press = s.press ∧ (latchChange k slot side level s).car = s.car ∧
    (latchChange k slot side level s).store = s.store ∧
    (latchChange k slot side level s).panel.mask = s.panel.mask ∧
    (latchChange k slot side level s).panel.stopn = s.panel.stopn ∧
    (latchChange k slot side level s).panel.reply = s.panel.reply ∧
    (latchChange k slot side level s).panel.restartPending = s.panel.restartPending ∧
    (latchChange k slot side level s).panel.transaction = s.panel.transaction := by
  unfold latchChange; split <;> simp

@[simp] theorem leakChange_frame (k : Nat) (side : Side) (level : Bool) (s : State) :
    (leakChange k side level s).pending = s.pending ∧ (leakChange k side level s).pins = s.pins ∧
    (leakChange k side level s).resetRecord = s.resetRecord ∧ (leakChange k side level s).cfg = s.cfg ∧
    (leakChange k side level s).fresh = s.fresh ∧ (leakChange k side level s).line = s.line ∧
    (leakChange k side level s).peer = s.peer ∧ (leakChange k side level s).ticket = s.ticket ∧
    (leakChange k side level s).sched = s.sched ∧ (leakChange k side level s).press = s.press ∧
    (leakChange k side level s).car = s.car ∧ (leakChange k side level s).store = s.store ∧
    (leakChange k side level s).panel.mask = s.panel.mask ∧
    (leakChange k side level s).panel.stopn = s.panel.stopn ∧
    (leakChange k side level s).panel.reply = s.panel.reply ∧
    (leakChange k side level s).panel.restartPending = s.panel.restartPending ∧
    (leakChange k side level s).panel.transaction = s.panel.transaction := by
  unfold leakChange; split <;> simp

@[simp] theorem actOnChange_frame (l : RejectLine) (level : Bool) (s : State) :
    (actOnChange l level s).pending = s.pending ∧ (actOnChange l level s).pins = s.pins ∧
    (actOnChange l level s).resetRecord = s.resetRecord ∧ (actOnChange l level s).cfg = s.cfg ∧
    (actOnChange l level s).fresh = s.fresh ∧ (actOnChange l level s).line.state = s.line.state ∧
    (actOnChange l level s).line.ownReturn = s.line.ownReturn ∧
    (actOnChange l level s).line.score = s.line.score ∧
    (actOnChange l level s).line.withdrawTimer = s.line.withdrawTimer ∧
    (actOnChange l level s).line.counters.rxGood = s.line.counters.rxGood ∧
    (actOnChange l level s).line.counters.rxBad = s.line.counters.rxBad ∧
    (actOnChange l level s).line.counters.txDone = s.line.counters.txDone ∧
    (actOnChange l level s).line.counters.txRetry = s.line.counters.txRetry ∧
    (actOnChange l level s).line.counters.lapses = s.line.counters.lapses ∧
    (actOnChange l level s).peer = s.peer ∧ (actOnChange l level s).ticket.record = s.ticket.record ∧
    (actOnChange l level s).ticket.lastDone = s.ticket.lastDone ∧
    (actOnChange l level s).ticket.stopFlag = s.ticket.stopFlag ∧
    (actOnChange l level s).ticket.pacing = s.ticket.pacing ∧
    (actOnChange l level s).sched.roster = s.sched.roster ∧
    (actOnChange l level s).sched.cursor = s.sched.cursor ∧ (actOnChange l level s).press = s.press ∧
    (actOnChange l level s).store.array = s.store.array ∧ (actOnChange l level s).store.queue = s.store.queue ∧
    (actOnChange l level s).store.write = s.store.write ∧ (actOnChange l level s).panel.mask = s.panel.mask ∧
    (actOnChange l level s).panel.stopn = s.panel.stopn ∧ (actOnChange l level s).panel.reply = s.panel.reply ∧
    (actOnChange l level s).panel.restartPending = s.panel.restartPending ∧
    (actOnChange l level s).line.cutOff = s.line.cutOff ∧
    (actOnChange l level s).line.listener = s.line.listener ∧
    (actOnChange l level s).panel.transaction = s.panel.transaction := by
  unfold actOnChange; (repeat' split) <;> simp

@[simp] theorem acceptChange_frame (l : RejectLine) (level : Bool) (s : State) :
    (acceptChange l level s).pending = s.pending ∧ (acceptChange l level s).pins = s.pins ∧
    (acceptChange l level s).resetRecord = s.resetRecord ∧ (acceptChange l level s).cfg = s.cfg ∧
    (acceptChange l level s).fresh = s.fresh ∧ (acceptChange l level s).line.state = s.line.state ∧
    (acceptChange l level s).line.ownReturn = s.line.ownReturn ∧
    (acceptChange l level s).line.score = s.line.score ∧
    (acceptChange l level s).line.withdrawTimer = s.line.withdrawTimer ∧
    (acceptChange l level s).line.counters.rxGood = s.line.counters.rxGood ∧
    (acceptChange l level s).line.counters.rxBad = s.line.counters.rxBad ∧
    (acceptChange l level s).line.counters.txDone = s.line.counters.txDone ∧
    (acceptChange l level s).line.counters.txRetry = s.line.counters.txRetry ∧
    (acceptChange l level s).line.counters.lapses = s.line.counters.lapses ∧
    (acceptChange l level s).peer = s.peer ∧ (acceptChange l level s).ticket.record = s.ticket.record ∧
    (acceptChange l level s).ticket.lastDone = s.ticket.lastDone ∧
    (acceptChange l level s).ticket.stopFlag = s.ticket.stopFlag ∧
    (acceptChange l level s).ticket.pacing = s.ticket.pacing ∧
    (acceptChange l level s).sched.roster = s.sched.roster ∧
    (acceptChange l level s).sched.cursor = s.sched.cursor ∧ (acceptChange l level s).press = s.press ∧
    (acceptChange l level s).store.array = s.store.array ∧ (acceptChange l level s).store.queue = s.store.queue ∧
    (acceptChange l level s).store.write = s.store.write ∧ (acceptChange l level s).panel.mask = s.panel.mask ∧
    (acceptChange l level s).panel.reply = s.panel.reply ∧
    (acceptChange l level s).panel.restartPending = s.panel.restartPending ∧
    (acceptChange l level s).line.cutOff = s.line.cutOff ∧
    (acceptChange l level s).line.listener = s.line.listener ∧
    (acceptChange l level s).panel.transaction = s.panel.transaction := by
  simp [acceptChange]

@[simp] theorem beginScan_frame (s : State) :
    (beginScan s).pending = s.pending ∧ (beginScan s).pins = s.pins ∧ (beginScan s).resetRecord = s.resetRecord ∧
    (beginScan s).cfg = s.cfg ∧ (beginScan s).fresh = s.fresh ∧ (beginScan s).line = s.line ∧
    (beginScan s).peer = s.peer ∧ (beginScan s).ticket = s.ticket ∧ (beginScan s).sched = s.sched ∧
    (beginScan s).door = s.door ∧ (beginScan s).press.channels = s.press.channels ∧
    (beginScan s).press.main = s.press.main ∧ (beginScan s).press.dampers = s.press.dampers ∧
    (beginScan s).press.driven = s.press.driven ∧ (beginScan s).press.boundary = s.press.boundary ∧
    (beginScan s).press.entries = s.press.entries ∧ (beginScan s).press.listHold = s.press.listHold ∧
    (beginScan s).car = s.car ∧ (beginScan s).store = s.store ∧ (beginScan s).panel = s.panel := by
  simp [beginScan]

@[simp] theorem becomeStable_frame (s : State) :
    (becomeStable s).pending = s.pending ∧ (becomeStable s).pins = s.pins ∧
    (becomeStable s).resetRecord = s.resetRecord ∧ (becomeStable s).cfg = s.cfg ∧
    (becomeStable s).fresh = s.fresh ∧ (becomeStable s).line = s.line ∧ (becomeStable s).peer = s.peer ∧
    (becomeStable s).ticket = s.ticket ∧ (becomeStable s).sched = s.sched ∧ (becomeStable s).door = s.door ∧
    (becomeStable s).press.scanTimer = s.press.scanTimer ∧
    (becomeStable s).press.converting = s.press.converting ∧ (becomeStable s).press.channels = s.press.channels ∧
    (becomeStable s).press.dampers = s.press.dampers ∧ (becomeStable s).press.driven = s.press.driven ∧
    (becomeStable s).press.boundary = s.press.boundary ∧ (becomeStable s).press.entries = s.press.entries ∧
    (becomeStable s).press.listHold = s.press.listHold ∧ (becomeStable s).car = s.car ∧
    (becomeStable s).store = s.store ∧ (becomeStable s).panel = s.panel := by
  simp [becomeStable]

@[simp] theorem settleExpires_frame (k : Nat) (s : State) :
    (settleExpires k s).pending = s.pending ∧ (settleExpires k s).pins = s.pins ∧
    (settleExpires k s).resetRecord = s.resetRecord ∧ (settleExpires k s).cfg = s.cfg ∧
    (settleExpires k s).fresh = s.fresh ∧ (settleExpires k s).line = s.line ∧ (settleExpires k s).peer = s.peer ∧
    (settleExpires k s).ticket = s.ticket ∧ (settleExpires k s).sched = s.sched ∧
    (settleExpires k s).door = s.door ∧ (settleExpires k s).press.scanTimer = s.press.scanTimer ∧
    (settleExpires k s).press.converting = s.press.converting ∧
    (settleExpires k s).press.channels = s.press.channels ∧ (settleExpires k s).press.main = s.press.main ∧
    (settleExpires k s).press.driven = s.press.driven ∧ (settleExpires k s).press.boundary = s.press.boundary ∧
    (settleExpires k s).press.entries = s.press.entries ∧ (settleExpires k s).press.listHold = s.press.listHold ∧
    (settleExpires k s).car = s.car ∧ (settleExpires k s).store = s.store ∧ (settleExpires k s).panel = s.panel := by
  simp [settleExpires]

@[simp] theorem hotTravelExpires_frame (s : State) :
    (hotTravelExpires s).pending = s.pending ∧ (hotTravelExpires s).pins = s.pins ∧
    (hotTravelExpires s).resetRecord = s.resetRecord ∧ (hotTravelExpires s).cfg = s.cfg ∧
    (hotTravelExpires s).fresh = s.fresh ∧ (hotTravelExpires s).line = s.line ∧
    (hotTravelExpires s).peer = s.peer ∧ (hotTravelExpires s).ticket = s.ticket ∧
    (hotTravelExpires s).sched = s.sched ∧ (hotTravelExpires s).door = s.door ∧
    (hotTravelExpires s).press = s.press ∧ (hotTravelExpires s).car.position = s.car.position ∧
    (hotTravelExpires s).car.state = s.car.state ∧ (hotTravelExpires s).car.action = s.car.action ∧
    (hotTravelExpires s).car.served = s.car.served ∧ (hotTravelExpires s).car.doorHeld = s.car.doorHeld ∧
    (hotTravelExpires s).car.stallHeld = s.car.stallHeld ∧
    (hotTravelExpires s).car.faultDeclined = s.car.faultDeclined ∧
    (hotTravelExpires s).car.markerLimit = s.car.markerLimit ∧
    (hotTravelExpires s).car.actionLimit = s.car.actionLimit ∧ (hotTravelExpires s).car.queue = s.car.queue ∧
    (hotTravelExpires s).car.inProgress = s.car.inProgress ∧
    (hotTravelExpires s).car.direction = s.car.direction ∧ (hotTravelExpires s).car.quench = s.car.quench ∧
    (hotTravelExpires s).car.quenchTimer = s.car.quenchTimer ∧
    (hotTravelExpires s).car.drainTimer = s.car.drainTimer ∧ (hotTravelExpires s).car.marker = s.car.marker ∧
    (hotTravelExpires s).car.home = s.car.home ∧ (hotTravelExpires s).store = s.store ∧
    (hotTravelExpires s).panel.mask = s.panel.mask ∧ (hotTravelExpires s).panel.stopn = s.panel.stopn ∧
    (hotTravelExpires s).panel.reply = s.panel.reply ∧
    (hotTravelExpires s).panel.restartPending = s.panel.restartPending ∧
    (hotTravelExpires s).car.actionServes = s.car.actionServes ∧
    (hotTravelExpires s).panel.transaction = s.panel.transaction := by
  simp [hotTravelExpires]

@[simp] theorem answer_frame (a : Answer) (s : State) :
    (answer a s).pending = s.pending ∧ (answer a s).pins = s.pins ∧ (answer a s).resetRecord = s.resetRecord ∧
    (answer a s).cfg = s.cfg ∧ (answer a s).fresh = s.fresh ∧ (answer a s).line = s.line ∧
    (answer a s).peer = s.peer ∧ (answer a s).ticket = s.ticket ∧ (answer a s).sched = s.sched ∧
    (answer a s).door = s.door ∧ (answer a s).press = s.press ∧ (answer a s).car = s.car ∧
    (answer a s).store = s.store ∧ (answer a s).panel.events = s.panel.events ∧
    (answer a s).panel.mask = s.panel.mask ∧ (answer a s).panel.stopn = s.panel.stopn ∧
    (answer a s).panel.restartPending = s.panel.restartPending ∧ (answer a s).panel.transaction = s.panel.transaction := by
  simp [answer]

@[simp] theorem answerData_frame (d : List Byte) (s : State) :
    (answerData d s).pending = s.pending ∧ (answerData d s).pins = s.pins ∧
    (answerData d s).resetRecord = s.resetRecord ∧ (answerData d s).cfg = s.cfg ∧
    (answerData d s).fresh = s.fresh ∧ (answerData d s).line = s.line ∧ (answerData d s).peer = s.peer ∧
    (answerData d s).ticket = s.ticket ∧ (answerData d s).sched = s.sched ∧ (answerData d s).door = s.door ∧
    (answerData d s).press = s.press ∧ (answerData d s).car = s.car ∧ (answerData d s).store = s.store ∧
    (answerData d s).panel.events = s.panel.events ∧ (answerData d s).panel.mask = s.panel.mask ∧
    (answerData d s).panel.stopn = s.panel.stopn ∧
    (answerData d s).panel.restartPending = s.panel.restartPending ∧
    (answerData d s).panel.transaction = s.panel.transaction := by
  simp [answerData]

@[simp] theorem endCharge_frame (oven : Nat) (k : Nat) (s : State) :
    (endCharge oven k s).pending = s.pending ∧ (endCharge oven k s).pins = s.pins ∧
    (endCharge oven k s).resetRecord = s.resetRecord ∧ (endCharge oven k s).cfg = s.cfg ∧
    (endCharge oven k s).fresh = s.fresh ∧ (endCharge oven k s).line.state = s.line.state ∧
    (endCharge oven k s).line.ownReturn = s.line.ownReturn ∧ (endCharge oven k s).line.score = s.line.score ∧
    (endCharge oven k s).line.withdrawTimer = s.line.withdrawTimer ∧
    (endCharge oven k s).line.counters.rxGood = s.line.counters.rxGood ∧
    (endCharge oven k s).line.counters.rxBad = s.line.counters.rxBad ∧
    (endCharge oven k s).line.counters.txDone = s.line.counters.txDone ∧
    (endCharge oven k s).line.counters.txRetry = s.line.counters.txRetry ∧
    (endCharge oven k s).line.counters.lapses = s.line.counters.lapses ∧ (endCharge oven k s).peer = s.peer ∧
    (endCharge oven k s).ticket.record = s.ticket.record ∧
    (endCharge oven k s).ticket.lastDone = s.ticket.lastDone ∧
    (endCharge oven k s).ticket.stopFlag = s.ticket.stopFlag ∧
    (endCharge oven k s).ticket.pacing = s.ticket.pacing ∧ (endCharge oven k s).sched.roster = s.sched.roster ∧
    (endCharge oven k s).sched.cursor = s.sched.cursor ∧ (endCharge oven k s).door = s.door ∧
    (endCharge oven k s).press = s.press ∧ (endCharge oven k s).car = s.car ∧
    (endCharge oven k s).store.array = s.store.array ∧ (endCharge oven k s).store.queue = s.store.queue ∧
    (endCharge oven k s).store.write = s.store.write ∧ (endCharge oven k s).panel.mask = s.panel.mask ∧
    (endCharge oven k s).panel.stopn = s.panel.stopn ∧ (endCharge oven k s).panel.reply = s.panel.reply ∧
    (endCharge oven k s).panel.restartPending = s.panel.restartPending ∧
    (endCharge oven k s).line.cutOff = s.line.cutOff ∧ (endCharge oven k s).line.listener = s.line.listener ∧
    (endCharge oven k s).panel.transaction = s.panel.transaction := by
  simp only [endCharge]; split <;> simp

@[simp] theorem reseatDoors_frame (k : Nat) (sides : List Side) (s : State) :
    (reseatDoors k sides s).pending = s.pending ∧ (reseatDoors k sides s).pins = s.pins ∧
    (reseatDoors k sides s).resetRecord = s.resetRecord ∧ (reseatDoors k sides s).cfg = s.cfg ∧
    (reseatDoors k sides s).fresh = s.fresh ∧ (reseatDoors k sides s).line = s.line ∧
    (reseatDoors k sides s).peer = s.peer ∧ (reseatDoors k sides s).ticket = s.ticket ∧
    (reseatDoors k sides s).sched = s.sched ∧ (reseatDoors k sides s).press = s.press ∧
    (reseatDoors k sides s).car = s.car ∧ (reseatDoors k sides s).store = s.store ∧
    (reseatDoors k sides s).panel.mask = s.panel.mask ∧ (reseatDoors k sides s).panel.stopn = s.panel.stopn ∧
    (reseatDoors k sides s).panel.reply = s.panel.reply ∧
    (reseatDoors k sides s).panel.restartPending = s.panel.restartPending ∧
    (reseatDoors k sides s).panel.transaction = s.panel.transaction := by
  exact ⟨
    foldl_keeps (fun s => s.pending) _ _ (fun _ _ => by simp) _,
    foldl_keeps (fun s => s.pins) _ _ (fun _ _ => by simp) _,
    foldl_keeps (fun s => s.resetRecord) _ _ (fun _ _ => by simp) _,
    foldl_keeps (fun s => s.cfg) _ _ (fun _ _ => by simp) _,
    foldl_keeps (fun s => s.fresh) _ _ (fun _ _ => by simp) _,
    foldl_keeps (fun s => s.line) _ _ (fun _ _ => by simp) _,
    foldl_keeps (fun s => s.peer) _ _ (fun _ _ => by simp) _,
    foldl_keeps (fun s => s.ticket) _ _ (fun _ _ => by simp) _,
    foldl_keeps (fun s => s.sched) _ _ (fun _ _ => by simp) _,
    foldl_keeps (fun s => s.press) _ _ (fun _ _ => by simp) _,
    foldl_keeps (fun s => s.car) _ _ (fun _ _ => by simp) _,
    foldl_keeps (fun s => s.store) _ _ (fun _ _ => by simp) _,
    foldl_keeps (fun s => s.panel.mask) _ _ (fun _ _ => by simp) _,
    foldl_keeps (fun s => s.panel.stopn) _ _ (fun _ _ => by simp) _,
    foldl_keeps (fun s => s.panel.reply) _ _ (fun _ _ => by simp) _,
    foldl_keeps (fun s => s.panel.restartPending) _ _ (fun _ _ => by simp) _,
    foldl_keeps (fun s => s.panel.transaction) _ _ (fun _ _ => by simp) _⟩

end Sys2Proof.Machine
end

