-- ==== Sys2Proof/Laws/Flags.lean ====
section
/-! SUPPORT. A flag that is set stays set through every operation but ACK_EVENTS and a reset (R200). -/

namespace Sys2Proof.Machine

@[simp] theorem mapLine_flag (f : LineUnit → LineUnit) (s : State) (e : EventFlag) :
    (s.mapLine f).flag e = s.flag e := rfl
@[simp] theorem mapPeer_flag (f : PeerUnit → PeerUnit) (s : State) (e : EventFlag) :
    (s.mapPeer f).flag e = s.flag e := rfl
@[simp] theorem mapTicket_flag (f : TicketUnit → TicketUnit) (s : State) (e : EventFlag) :
    (s.mapTicket f).flag e = s.flag e := rfl
@[simp] theorem mapSched_flag (f : SchedUnit → SchedUnit) (s : State) (e : EventFlag) :
    (s.mapSched f).flag e = s.flag e := rfl
@[simp] theorem mapDoor_flag (f : List DoorPair → List DoorPair) (s : State) (e : EventFlag) :
    (s.mapDoor f).flag e = s.flag e := rfl
@[simp] theorem mapPress_flag (f : PressureUnit → PressureUnit) (s : State) (e : EventFlag) :
    (s.mapPress f).flag e = s.flag e := rfl
@[simp] theorem mapCar_flag (f : CarUnit → CarUnit) (s : State) (e : EventFlag) :
    (s.mapCar f).flag e = s.flag e := rfl
@[simp] theorem mapStore_flag (f : StoreUnit → StoreUnit) (s : State) (e : EventFlag) :
    (s.mapStore f).flag e = s.flag e := rfl
theorem flag_congr (s t : State) (e : EventFlag) (h : t.panel.events = s.panel.events) : t.flag e = s.flag e := by
  unfold State.flag; rw [h]
@[simp] theorem bit_self (e : EventFlag) : e.word.getLsbD e.bit = true := by cases e <;> decide
@[simp] theorem raise_flag (e e' : EventFlag) (s : State) (h : s.flag e = true) : (raise e' s).flag e = true := by
  unfold State.flag at *; simp [raise, h]
@[simp] theorem raise_self (e : EventFlag) (s : State) : (raise e s).flag e = true := by
  unfold State.flag; simp [raise]


@[simp] theorem countRxGood_flag (e : EventFlag) (s : State) : (countRxGood s).flag e = s.flag e := rfl
@[simp] theorem countRxBad_flag (e : EventFlag) (s : State) : (countRxBad s).flag e = s.flag e := rfl
@[simp] theorem countTxDone_flag (e : EventFlag) (s : State) : (countTxDone s).flag e = s.flag e := rfl
@[simp] theorem countTxRetry_flag (e : EventFlag) (s : State) : (countTxRetry s).flag e = s.flag e := rfl
@[simp] theorem countLapse_flag (e : EventFlag) (s : State) : (countLapse s).flag e = s.flag e := rfl
@[simp] theorem countTxDrop_flag (e : EventFlag) (s : State) (h : s.flag e = true) : (countTxDrop s).flag e = true :=
  raise_flag e _ _ h

@[simp] theorem raiseIf_flag (ev : EventFlag) (b : Bool) (e : EventFlag) (s : State) (h : s.flag ev = true) :
    (raiseIf b e s).flag ev = true := by
  unfold raiseIf; split <;> simp (maxDischargeDepth := 20) [h]

@[simp] theorem want_flag (ev : EventFlag) (r : RecordId) (s : State) (h : s.flag ev = true) :
    (want r s).flag ev = true := by
  simpa [State.flag] using h

@[simp] theorem setInput_flag (ev : EventFlag) (i : Nat) (b : Bool) (s : State) (h : s.flag ev = true) :
    (setInput i b s).flag ev = true := by
  simpa [State.flag] using h

@[simp] theorem setLine_flag (ev : EventFlag) (l : RejectLine) (b : Bool) (s : State) (h : s.flag ev = true) :
    (setLine l b s).flag ev = true := by
  simpa [State.flag] using h

@[simp] theorem settleClaim_flag (ev : EventFlag) (withBackoff : Bool) (s : State) (h : s.flag ev = true) :
    (settleClaim withBackoff s).flag ev = true := by
  simpa [State.flag] using h

@[simp] theorem openNotOffered_flag (ev : EventFlag) (s : State) (h : s.flag ev = true) :
    (openNotOffered s).flag ev = true := by
  simpa [State.flag] using h

@[simp] theorem goNotOffered_flag (ev : EventFlag) (s : State) (h : s.flag ev = true) :
    (goNotOffered s).flag ev = true := by
  simpa [State.flag] using h

@[simp] theorem keepDropped_flag (ev : EventFlag) (f : Frame) (s : State) (h : s.flag ev = true) :
    (keepDropped f s).flag ev = true := by
  simpa [State.flag] using h

@[simp] theorem onDrop_flag (ev : EventFlag) (f : Frame) (s : State) (h : s.flag ev = true) :
    (onDrop f s).flag ev = true := by
  simpa [State.flag] using h

@[simp] theorem offer_flag (ev : EventFlag) (f : Frame) (s : State) (h : s.flag ev = true) :
    (offer f s).flag ev = true := by
  unfold offer; (repeat' split) <;> simp (maxDischargeDepth := 20) [h]

@[simp] theorem offerOpt_flag (ev : EventFlag) (f : Option Frame) (s : State) (h : s.flag ev = true) :
    (offerOpt f s).flag ev = true := by
  unfold offerOpt; split <;> simp (maxDischargeDepth := 20) [h]

@[simp] theorem withdrawFrames_flag (ev : EventFlag) (p : Frame → Bool) (s : State) (h : s.flag ev = true) :
    (withdrawFrames p s).flag ev = true := by
  simpa [State.flag] using h

@[simp] theorem withdrawClaim_flag (ev : EventFlag) (s : State) (h : s.flag ev = true) :
    (withdrawClaim s).flag ev = true := by
  simpa [State.flag] using h

@[simp] theorem withdrawOpenGo_flag (ev : EventFlag) (r : Record) (s : State) (h : s.flag ev = true) :
    (withdrawOpenGo r s).flag ev = true := by
  simpa [State.flag] using h

@[simp] theorem onMarkedRemoved_flag (ev : EventFlag) (f : Frame) (s : State) (h : s.flag ev = true) :
    (onMarkedRemoved f s).flag ev = true := by
  simpa [State.flag] using h

@[simp] theorem removeHead_flag (ev : EventFlag) (c : Nat) (s : State) (h : s.flag ev = true) :
    (removeHead c s).flag ev = true := by
  simpa [State.flag] using h

@[simp] theorem reofferDropped_flag (ev : EventFlag) (s : State) (h : s.flag ev = true) :
    (reofferDropped s).flag ev = true := by
  unfold reofferDropped
  exact foldl_preserves (fun x => x.flag ev = true) _ _ (fun x f hx => by split <;> simp [hx]) _ (by simpa using h)

@[simp] theorem forgetDropped_flag (ev : EventFlag) (t : Ticket) (o : Nat) (s : State) (h : s.flag ev = true) :
    (forgetDropped t o s).flag ev = true := by
  simpa [State.flag] using h

@[simp] theorem changeDoor_flag (ev : EventFlag) (k : Nat) (side : Side) (f : Door → Door) (s : State)
    (h : s.flag ev = true) :
    (changeDoor k side f s).flag ev = true := by
  unfold changeDoor; split <;> simp (maxDischargeDepth := 20) [h]

@[simp] theorem changeDoors_flag (ev : EventFlag) (k : Nat) (f : Bool → Door → Door) (s : State)
    (h : s.flag ev = true) :
    (changeDoors k f s).flag ev = true := by
  simp (maxDischargeDepth := 20) [changeDoors, h]

@[simp] theorem giveDeflate_flag (ev : EventFlag) (k : Nat) (s : State) (h : s.flag ev = true) :
    (giveDeflate k s).flag ev = true := by
  simp (maxDischargeDepth := 20) [giveDeflate, h]

@[simp] theorem endDeflate_flag (ev : EventFlag) (k : Nat) (s : State) (h : s.flag ev = true) :
    (endDeflate k s).flag ev = true := by
  simp (maxDischargeDepth := 20) [endDeflate, h]

@[simp] theorem judgeMain_flag (ev : EventFlag) (failed : Bool) (reading : Int) (s : State) (h : s.flag ev = true) :
    (judgeMain failed reading s).flag ev = true := by
  simp (maxDischargeDepth := 20) [judgeMain, h]

@[simp] theorem refreshDampers_flag (ev : EventFlag) (s : State) (h : s.flag ev = true) :
    (refreshDampers s).flag ev = true := by
  simpa [State.flag] using h

@[simp] theorem stepDamper_flag (ev : EventFlag) (k : Nat) (reading : Int) (s : State) (h : s.flag ev = true) :
    (stepDamper k reading s).flag ev = true := by
  simpa [State.flag] using h

@[simp] theorem postConversion_flag (ev : EventFlag) (c : Nat) (raw : Raw) (s : State) (h : s.flag ev = true) :
    (postConversion c raw s).flag ev = true := by
  simp only [postConversion]; (repeat' split) <;> simp (maxDischargeDepth := 20) [h]

@[simp] theorem applyPositions_flag (ev : EventFlag) (s : State) (h : s.flag ev = true) :
    (applyPositions s).flag ev = true := by
  simpa [State.flag] using h

@[simp] theorem admitEntry_flag (ev : EventFlag) (src : Nat) (oven : Nat) (s : State) (h : s.flag ev = true) :
    (admitEntry src oven s).flag ev = true := by
  simpa [State.flag] using h

@[simp] theorem removeEntry_flag (ev : EventFlag) (src : Nat) (oven : Nat) (s : State) (h : s.flag ev = true) :
    (removeEntry src oven s).flag ev = true := by
  simpa [State.flag] using h

@[simp] theorem expireEntry_flag (ev : EventFlag) (oven : Nat) (s : State) (h : s.flag ev = true) :
    (expireEntry oven s).flag ev = true := by
  unfold expireEntry; split <;> simp (maxDischargeDepth := 20) [h]

@[simp] theorem changeOven_flag (ev : EventFlag) (k : Nat) (f : Oven → Oven) (s : State) (h : s.flag ev = true) :
    (changeOven k f s).flag ev = true := by
  simpa [State.flag] using h

@[simp] theorem changeOvenRipening_flag (ev : EventFlag) (k : Nat) (f : Oven → Oven) (s : State)
    (h : s.flag ev = true) :
    (changeOvenRipening k f s).flag ev = true := by
  unfold changeOvenRipening; split <;> simp (maxDischargeDepth := 20) [h]

@[simp] theorem moveClocks_flag (ev : EventFlag) (old : Nat) (new : Nat) (s : State) (h : s.flag ev = true) :
    (moveClocks old new s).flag ev = true :=
  forSlots_preserves (fun x => x.flag ev = true) _ (fun k x hx => by dsimp only; split <;> simp [hx]) s h

@[simp] theorem setRoster_flag (ev : EventFlag) (oven : Nat) (e : RosterEntry) (s : State) (h : s.flag ev = true) :
    (setRoster oven e s).flag ev = true := by
  simpa [State.flag] using h

@[simp] theorem refreshOwnRoster_flag (ev : EventFlag) (s : State) (h : s.flag ev = true) :
    (refreshOwnRoster s).flag ev = true :=
  foldl_preserves (fun x => x.flag ev = true) _ _ (fun x o hx => by simp [hx]) s h

@[simp] theorem writeRoster_flag (ev : EventFlag) (src : Nat) (oven : Nat) (summary : Summary) (minutes : Nat) (s : State)
    (h : s.flag ev = true) :
    (writeRoster src oven summary minutes s).flag ev = true := by
  simp only [writeRoster]; (repeat' split) <;> simp (maxDischargeDepth := 20) [h]

@[simp] theorem takeRosterList_flag (ev : EventFlag) (src : Nat) (items : List RosterItem) (s : State)
    (h : s.flag ev = true) : (takeRosterList src items s).flag ev = true := by
  unfold takeRosterList
  simpa using foldl_preserves (fun x => x.flag ev = true) _ items (fun x r hx => by simp [hx]) s h

@[simp] theorem staleRoster_flag (ev : EventFlag) (src : Nat) (s : State) (h : s.flag ev = true) :
    (staleRoster src s).flag ev = true := by
  simpa [State.flag] using h

@[simp] theorem setCursor_flag (ev : EventFlag) (n : Nat) (s : State) (h : s.flag ev = true) :
    (setCursor n s).flag ev = true := by
  simpa [State.flag] using h

@[simp] theorem setQuench_flag (ev : EventFlag) (p : QuenchPhase) (s : State) (h : s.flag ev = true) :
    (setQuench p s).flag ev = true := by
  simpa [State.flag] using h

@[simp] theorem declineRemoved_flag (ev : EventFlag) (m : Move) (s : State) (h : s.flag ev = true) :
    (declineRemoved m s).flag ev = true := by
  unfold declineRemoved; (repeat' split) <;> simp (maxDischargeDepth := 20) [h]

@[simp] theorem queueHead_flag (ev : EventFlag) (m : Move) (s : State) (h : s.flag ev = true) :
    (queueHead m s).flag ev = true := by
  unfold queueHead; (repeat' split) <;> simp (maxDischargeDepth := 20) [h]

@[simp] theorem queueSpot_flag (ev : EventFlag) (target : Nat) (t : Ticket) (s : State) (h : s.flag ev = true) :
    (queueSpot target t s).flag ev = true := by
  simpa [State.flag] using h

@[simp] theorem becomeIdle_flag (ev : EventFlag) (s : State) (h : s.flag ev = true) :
    (becomeIdle s).flag ev = true := by
  simpa [State.flag] using h

@[simp] theorem enterCarFault_flag (ev : EventFlag) (s : State) (h : s.flag ev = true) :
    (enterCarFault s).flag ev = true := by
  simp only [enterCarFault]; (repeat' split) <;> simp (maxDischargeDepth := 20) [h]

@[simp] theorem dropHeadMove_flag (ev : EventFlag) (s : State) (h : s.flag ev = true) :
    (dropHeadMove s).flag ev = true := by
  simpa [State.flag] using h

@[simp] theorem arriveSpot_flag (ev : EventFlag) (m : Move) (s : State) (h : s.flag ev = true) :
    (arriveSpot m s).flag ev = true := by
  unfold arriveSpot; (repeat' split) <;> simp (maxDischargeDepth := 20) [h]

@[simp] theorem arriveTower_flag (ev : EventFlag) (s : State) (h : s.flag ev = true) :
    (arriveTower s).flag ev = true := by
  simpa [State.flag] using h

@[simp] theorem arriveWharf_flag (ev : EventFlag) (s : State) (h : s.flag ev = true) :
    (arriveWharf s).flag ev = true := by
  simpa [State.flag] using h

@[simp] theorem arrive_flag (ev : EventFlag) (s : State) (h : s.flag ev = true) :
    (arrive s).flag ev = true := by
  unfold arrive; (repeat' split) <;> simp (maxDischargeDepth := 20) [h]

@[simp] theorem startMove_flag (ev : EventFlag) (s : State) (h : s.flag ev = true) :
    (startMove s).flag ev = true := by
  unfold startMove; split <;> simp (maxDischargeDepth := 20) [h]

@[simp] theorem startAction_flag (ev : EventFlag) (a : Action) (s : State) (h : s.flag ev = true) :
    (startAction a s).flag ev = true := by
  simpa [State.flag] using h

@[simp] theorem judgeCar_flag (ev : EventFlag) (b : Bool) (n : Nat) : ∀ (s : State), s.flag ev = true →
    (judgeCar b n s).flag ev = true := by
  induction n with
  | zero => intro s h; exact h
  | succ n ih => intro s h; unfold judgeCar; (repeat' split) <;> simp [h, ih]

@[simp] theorem beginHoming_flag (ev : EventFlag) (s : State) (h : s.flag ev = true) :
    (beginHoming s).flag ev = true := by
  unfold beginHoming; split <;> simp (maxDischargeDepth := 20) [h]

@[simp] theorem restartMarkerLimit_flag (ev : EventFlag) (s : State) (h : s.flag ev = true) :
    (restartMarkerLimit s).flag ev = true := by
  simpa [State.flag] using h

@[simp] theorem markerEdge_flag (ev : EventFlag) (s : State) (h : s.flag ev = true) :
    (markerEdge s).flag ev = true := by
  simp only [markerEdge]; (repeat' split) <;> simp (maxDischargeDepth := 20) [h]

@[simp] theorem homeAsserted_flag (ev : EventFlag) (s : State) (h : s.flag ev = true) :
    (homeAsserted s).flag ev = true := by
  unfold homeAsserted; split <;> simp (maxDischargeDepth := 20) [h]

@[simp] theorem answerClaim_flag (ev : EventFlag) (t : Ticket) (oven : Nat) (s : State) (h : s.flag ev = true) :
    (answerClaim t oven s).flag ev = true := by
  unfold answerClaim; (repeat' split) <;> simp (maxDischargeDepth := 20) [h]

@[simp] theorem stopAction_flag (ev : EventFlag) (s : State) (h : s.flag ev = true) :
    (stopAction s).flag ev = true := by
  simpa [State.flag] using h

@[simp] theorem ramFinished_flag (ev : EventFlag) (s : State) (h : s.flag ev = true) :
    (ramFinished s).flag ev = true := by
  simp (maxDischargeDepth := 20) [ramFinished, h]

@[simp] theorem actionDone_flag (ev : EventFlag) (s : State) (h : s.flag ev = true) :
    (actionDone s).flag ev = true := by
  unfold actionDone; split <;> simp (maxDischargeDepth := 20) [h]

@[simp] theorem stallRam_flag (ev : EventFlag) (s : State) (h : s.flag ev = true) :
    (stallRam s).flag ev = true := by
  unfold stallRam; split <;> simp (maxDischargeDepth := 20) [h]

@[simp] theorem actionFailed_flag (ev : EventFlag) (s : State) (h : s.flag ev = true) :
    (actionFailed s).flag ev = true := by
  unfold actionFailed; split <;> simp (maxDischargeDepth := 20) [h]

@[simp] theorem releaseTicket_flag (ev : EventFlag) (t : Ticket) (s : State) (h : s.flag ev = true) :
    (releaseTicket t s).flag ev = true := by
  simpa [State.flag] using h

@[simp] theorem closeAtQuench_flag (ev : EventFlag) (s : State) (h : s.flag ev = true) :
    (closeAtQuench s).flag ev = true := by
  unfold closeAtQuench; (repeat' split) <;> simp (maxDischargeDepth := 20) [h]

@[simp] theorem carClosing_flag (ev : EventFlag) (r : Record) (s : State) (h : s.flag ev = true) :
    (carClosing r s).flag ev = true := by
  simp only [carClosing]; (repeat' split) <;> simp (maxDischargeDepth := 20) [h]

@[simp] theorem quenchReceives_flag (ev : EventFlag) (t : Ticket) (s : State) (h : s.flag ev = true) :
    (quenchReceives t s).flag ev = true := by
  simpa [State.flag] using h

@[simp] theorem carStopSet_flag (ev : EventFlag) (s : State) (h : s.flag ev = true) :
    (carStopSet s).flag ev = true := by
  simpa [State.flag] using h

@[simp] theorem carStopCleared_flag (ev : EventFlag) (s : State) (h : s.flag ev = true) :
    (carStopCleared s).flag ev = true := by
  simpa [State.flag] using h

@[simp] theorem adoptStall_flag (ev : EventFlag) (r : Record) (s : State) (h : s.flag ev = true) :
    (adoptStall r s).flag ev = true := by
  unfold adoptStall; (repeat' split) <;> simp (maxDischargeDepth := 20) [h]

@[simp] theorem resolvePushed_flag (ev : EventFlag) (s : State) (h : s.flag ev = true) :
    (resolvePushed s).flag ev = true := by
  unfold resolvePushed; split <;> simp (maxDischargeDepth := 20) [h]

@[simp] theorem resolveNotPushed_flag (ev : EventFlag) (s : State) (h : s.flag ev = true) :
    (resolveNotPushed s).flag ev = true := by
  simp (maxDischargeDepth := 20) [resolveNotPushed, h]

@[simp] theorem clearCar_flag (ev : EventFlag) (s : State) (h : s.flag ev = true) :
    (clearCar s).flag ev = true := by
  simp only [clearCar]; (repeat' split) <;> simp (maxDischargeDepth := 20) [h]

@[simp] theorem quenchExpires_flag (ev : EventFlag) (s : State) (h : s.flag ev = true) :
    (quenchExpires s).flag ev = true := by
  simpa [State.flag] using h

@[simp] theorem drainExpires_flag (ev : EventFlag) (s : State) (h : s.flag ev = true) :
    (drainExpires s).flag ev = true := by
  simp only [drainExpires]; (repeat' split) <;> simp (maxDischargeDepth := 20) [h]

@[simp] theorem mapRecord_flag (ev : EventFlag) (f : Record → Record) (s : State) (h : s.flag ev = true) :
    (mapRecord f s).flag ev = true := by
  simpa [State.flag] using h

@[simp] theorem mapContext_flag (ev : EventFlag) (f : Context → Context) (s : State) (h : s.flag ev = true) :
    (mapContext f s).flag ev = true := by
  simpa [State.flag] using h

@[simp] theorem ovenFollows_flag (ev : EventFlag) (old : Option Phase) (r : Record) (s : State)
    (h : s.flag ev = true) :
    (ovenFollows old r s).flag ev = true := by
  unfold ovenFollows; (repeat' split) <;> simp (maxDischargeDepth := 20) [h]

@[simp] theorem limitsAtPhase_flag (ev : EventFlag) (r : Record) (s : State) (h : s.flag ev = true) :
    (limitsAtPhase r s).flag ev = true := by
  simpa [State.flag] using h

@[simp] theorem advanceRecord_flag (ev : EventFlag) (p : Phase) (s : State) (h : s.flag ev = true) :
    (advanceRecord p s).flag ev = true := by
  simp only [advanceRecord]; (repeat' split) <;> simp (maxDischargeDepth := 20) [h]

@[simp] theorem openRecord_flag (ev : EventFlag) (t : Ticket) (oven : Nat) (src : Nat) (s : State)
    (h : s.flag ev = true) :
    (openRecord t oven src s).flag ev = true := by
  simp (maxDischargeDepth := 20) [openRecord, h]

@[simp] theorem setLastDone_flag (ev : EventFlag) (t : Ticket) (s : State) (h : s.flag ev = true) :
    (setLastDone t s).flag ev = true := by
  simpa [State.flag] using h

@[simp] theorem startPacing_flag (ev : EventFlag) (s : State) (h : s.flag ev = true) :
    (startPacing s).flag ev = true := by
  simpa [State.flag] using h

@[simp] theorem startBackoff_flag (ev : EventFlag) (s : State) (h : s.flag ev = true) :
    (startBackoff s).flag ev = true := by
  simpa [State.flag] using h

@[simp] theorem closeAtOwner_flag (ev : EventFlag) (kind : Closing) (r : Record) (k : Nat) (s : State)
    (h : s.flag ev = true) :
    (closeAtOwner kind r k s).flag ev = true := by
  unfold closeAtOwner; (repeat' split) <;> simp (maxDischargeDepth := 20) [h]

@[simp] theorem closeRecord_flag (ev : EventFlag) (kind : Closing) (s : State) (h : s.flag ev = true) :
    (closeRecord kind s).flag ev = true := by
  simp only [closeRecord]; (repeat' split) <;> simp (maxDischargeDepth := 20) [h]

@[simp] theorem offerAbandon_flag (ev : EventFlag) (reason : AbandonReason) (s : State) (h : s.flag ev = true) :
    (offerAbandon reason s).flag ev = true := by
  unfold offerAbandon; (repeat' split) <;> simp (maxDischargeDepth := 20) [h]

@[simp] theorem adoptDone_flag (ev : EventFlag) (t : Ticket) (oven : Nat) (s : State) (h : s.flag ev = true) :
    (adoptDone t oven s).flag ev = true := by
  simpa [State.flag] using h

@[simp] theorem adoptLastDone_flag (ev : EventFlag) (b : Standing) (s : State) (h : s.flag ev = true) :
    (adoptLastDone b s).flag ev = true := by
  simp only [adoptLastDone]; (repeat' split) <;> simp (maxDischargeDepth := 20) [h]

@[simp] theorem setStop_flag (ev : EventFlag) (s : State) (h : s.flag ev = true) :
    (setStop s).flag ev = true := by
  simpa [State.flag] using h

@[simp] theorem clearStop_flag (ev : EventFlag) (s : State) (h : s.flag ev = true) :
    (clearStop s).flag ev = true := by
  simpa [State.flag] using h

@[simp] theorem carLost_flag (ev : EventFlag) (k : CarKind) (s : State) (h : s.flag ev = true) :
    (carLost k s).flag ev = true := by
  unfold carLost; (repeat' split) <;> simp (maxDischargeDepth := 20) [h]

@[simp] theorem departure_flag (ev : EventFlag) (n : Nat) (role : Option Role) (kind : Option CarKind) (s : State)
    (h : s.flag ev = true) :
    (departure n role kind s).flag ev = true := by
  simp only [departure]; (repeat' split) <;> simp (maxDischargeDepth := 20) [h]

@[simp] theorem judgeServed_flag (ev : EventFlag) (src : Nat) (k : CarKind) (served : Option Ticket) (s : State)
    (h : s.flag ev = true) :
    (judgeServed src k served s).flag ev = true := by
  unfold judgeServed; (repeat' split) <;> simp (maxDischargeDepth := 20) [h]

@[simp] theorem judgeClaim_flag (ev : EventFlag) (s : State) (h : s.flag ev = true) :
    (judgeClaim s).flag ev = true := by
  unfold judgeClaim; (repeat' split) <;> simp (maxDischargeDepth := 20) [h]

@[simp] theorem startNextWrite_flag (ev : EventFlag) (s : State) (h : s.flag ev = true) :
    (startNextWrite s).flag ev = true := by
  simpa [State.flag] using h

@[simp] theorem flushStore_flag (ev : EventFlag) (s : State) (h : s.flag ev = true) :
    (flushStore s).flag ev = true := by
  simpa [State.flag] using h

@[simp] theorem startConfigWrite_flag (ev : EventFlag) (offset : Nat) (bytes : List Byte) (s : State)
    (h : s.flag ev = true) :
    (startConfigWrite offset bytes s).flag ev = true := by
  simpa [State.flag] using h

@[simp] theorem offerOvenFrames_flag (ev : EventFlag) (a b : List Oven) : ∀ (s : State), s.flag ev = true →
    (offerOvenFrames a b s).flag ev = true := by
  induction a generalizing b with
  | nil => intro s h; simpa [offerOvenFrames] using h
  | cons x a ih =>
    intro s h
    cases b with
    | nil => simpa [offerOvenFrames] using h
    | cons y b => unfold offerOvenFrames; apply ih; split <;> simp [h]

@[simp] theorem finishCar_flag (ev : EventFlag) (s0 : State) (s : State) (h : s.flag ev = true) :
    (finishCar s0 s).flag ev = true := by
  simp (maxDischargeDepth := 20) [finishCar, h]

@[simp] theorem enterDuplicate_flag (ev : EventFlag) (s : State) (h : s.flag ev = true) :
    (enterDuplicate s).flag ev = true := by
  simp (maxDischargeDepth := 20) [enterDuplicate, h]

@[simp] theorem ownerWithdrawn_flag (ev : EventFlag) (s : State) (h : s.flag ev = true) :
    (ownerWithdrawn s).flag ev = true := by
  unfold ownerWithdrawn; (repeat' split) <;> simp (maxDischargeDepth := 20) [h]

@[simp] theorem enterWithdrawn_flag (ev : EventFlag) (s : State) (h : s.flag ev = true) :
    (enterWithdrawn s).flag ev = true := by
  simp (maxDischargeDepth := 20) [enterWithdrawn, h]

@[simp] theorem enterJoining_flag (ev : EventFlag) (startJoin : Bool) (s : State) (h : s.flag ev = true) :
    (enterJoining startJoin s).flag ev = true := by
  simpa [State.flag] using h

@[simp] theorem offerStanding_flag (ev : EventFlag) (s : State) (h : s.flag ev = true) :
    (offerStanding s).flag ev = true := by
  simp (maxDischargeDepth := 20) [offerStanding, h]

@[simp] theorem enterActive_flag (ev : EventFlag) (s : State) (h : s.flag ev = true) :
    (enterActive s).flag ev = true := by
  simp only [enterActive]; (repeat' split) <;> simp (maxDischargeDepth := 20) [h]

@[simp] theorem adoptRecord_flag (ev : EventFlag) (c : StandingCommon) (s : State) (h : s.flag ev = true) :
    (adoptRecord c s).flag ev = true := by
  simp only [adoptRecord]; (repeat' split) <;> simp (maxDischargeDepth := 20) [h]

@[simp] theorem adoptCursor_flag (ev : EventFlag) (c : JoinChoice) (s : State) (h : s.flag ev = true) :
    (adoptCursor c s).flag ev = true := by
  simpa [State.flag] using h

@[simp] theorem adoptChoice_flag (ev : EventFlag) (s : State) (h : s.flag ev = true) :
    (adoptChoice s).flag ev = true := by
  simp only [adoptChoice]; (repeat' split) <;> simp (maxDischargeDepth := 20) [h]

@[simp] theorem catchUpOven_flag (ev : EventFlag) (k : Nat) (s : State) (h : s.flag ev = true) :
    (catchUpOven k s).flag ev = true := by
  unfold catchUpOven; (repeat' split) <;> simp (maxDischargeDepth := 20) [h]

@[simp] theorem suspectOven_flag (ev : EventFlag) (k : Nat) (s : State) (h : s.flag ev = true) :
    (suspectOven k s).flag ev = true := by
  simpa [State.flag] using h

@[simp] theorem catchUp_flag (ev : EventFlag) (s : State) (h : s.flag ev = true) : (catchUp s).flag ev = true := by
  unfold catchUp
  have h1 := forSlots_preserves (fun x => x.flag ev = true) catchUpOven (fun k x hx => by simp [hx]) s h
  refine forSlots_preserves (fun x => x.flag ev = true) _ (fun k x hx => by simp [hx]) _ ?_
  split
  · exact h1
  · exact raise_flag _ _ _ (forSlots_preserves (fun x => x.flag ev = true) _ (fun k x hx => by simp [hx]) _ h1)

@[simp] theorem completeStartJoin_flag (ev : EventFlag) (s : State) (h : s.flag ev = true) :
    (completeStartJoin s).flag ev = true := by
  simp (maxDischargeDepth := 20) [completeStartJoin, h]

@[simp] theorem completeJoin_flag (ev : EventFlag) (s : State) (h : s.flag ev = true) :
    (completeJoin s).flag ev = true := by
  simp only [completeJoin]; (repeat' split) <;> simp (maxDischargeDepth := 20) [h]

@[simp] theorem takeOwn_flag (ev : EventFlag) (s : State) (h : s.flag ev = true) :
    (takeOwn s).flag ev = true := by
  simpa [State.flag] using h

@[simp] theorem takeStop_flag (ev : EventFlag) (s : State) (h : s.flag ev = true) :
    (takeStop s).flag ev = true := by
  unfold takeStop; split <;> simp (maxDischargeDepth := 20) [h]

@[simp] theorem takeResume_flag (ev : EventFlag) (s : State) (h : s.flag ev = true) :
    (takeResume s).flag ev = true := by
  simp only [takeResume]; (repeat' split) <;> simp (maxDischargeDepth := 20) [h]

@[simp] theorem takeClaim_flag (ev : EventFlag) (src : Nat) (t : Ticket) (oven : Nat) (s : State)
    (h : s.flag ev = true) :
    (takeClaim src t oven s).flag ev = true := by
  simp only [takeClaim]; (repeat' split) <;> simp (maxDischargeDepth := 20) [h]

@[simp] theorem takeAssent_flag (ev : EventFlag) (src : Nat) (t : Ticket) (oven : Nat) (k : CarKind) (s : State)
    (h : s.flag ev = true) :
    (takeAssent src t oven k s).flag ev = true := by
  unfold takeAssent; (repeat' split) <;> simp (maxDischargeDepth := 20) [h]

@[simp] theorem takeDecline_flag (ev : EventFlag) (src : Nat) (t : Ticket) (oven : Nat) (k : CarKind) (s : State)
    (h : s.flag ev = true) :
    (takeDecline src t oven k s).flag ev = true := by
  unfold takeDecline; (repeat' split) <;> simp (maxDischargeDepth := 20) [h]

@[simp] theorem takeOpen_flag (ev : EventFlag) (src : Nat) (t : Ticket) (oven : Nat) (s : State)
    (h : s.flag ev = true) :
    (takeOpen src t oven s).flag ev = true := by
  unfold takeOpen; (repeat' split) <;> simp (maxDischargeDepth := 20) [h]

@[simp] theorem takeSpotted_flag (ev : EventFlag) (src : Nat) (t : Ticket) (oven : Nat) (k : CarKind) (s : State)
    (h : s.flag ev = true) :
    (takeSpotted src t oven k s).flag ev = true := by
  simpa [State.flag] using h

@[simp] theorem takeReady_flag (ev : EventFlag) (src : Nat) (t : Ticket) (oven : Nat) (k : CarKind) (s : State)
    (h : s.flag ev = true) :
    (takeReady src t oven k s).flag ev = true := by
  simpa [State.flag] using h

@[simp] theorem takeGo_flag (ev : EventFlag) (src : Nat) (t : Ticket) (oven : Nat) (s : State)
    (h : s.flag ev = true) :
    (takeGo src t oven s).flag ev = true := by
  simp only [takeGo]; (repeat' split) <;> simp (maxDischargeDepth := 20) [h]

@[simp] theorem takeStall_flag (ev : EventFlag) (src : Nat) (t : Ticket) (oven : Nat) (s : State)
    (h : s.flag ev = true) :
    (takeStall src t oven s).flag ev = true := by
  unfold takeStall; (repeat' split) <;> simp (maxDischargeDepth := 20) [h]

@[simp] theorem takeDone_flag (ev : EventFlag) (src : Nat) (t : Ticket) (oven : Nat) (s : State)
    (h : s.flag ev = true) :
    (takeDone src t oven s).flag ev = true := by
  unfold takeDone; (repeat' split) <;> simp (maxDischargeDepth := 20) [h]

@[simp] theorem takeAbandon_flag (ev : EventFlag) (src : Nat) (t : Ticket) (reason : AbandonReason) (s : State)
    (h : s.flag ev = true) :
    (takeAbandon src t reason s).flag ev = true := by
  simp only [takeAbandon]; (repeat' split) <;> simp (maxDischargeDepth := 20) [h]

@[simp] theorem admitCharge_flag (ev : EventFlag) (oven : Nat) (s : State) (h : s.flag ev = true) :
    (admitCharge oven s).flag ev = true := by
  unfold admitCharge; (repeat' split) <;> simp (maxDischargeDepth := 20) [h]

@[simp] theorem takeAspirate_flag (ev : EventFlag) (src : Nat) (oven : Nat) (s : State) (h : s.flag ev = true) :
    (takeAspirate src oven s).flag ev = true := by
  simp only [takeAspirate]; (repeat' split) <;> simp (maxDischargeDepth := 20) [h]

@[simp] theorem takeAspirateEnd_flag (ev : EventFlag) (src : Nat) (oven : Nat) (s : State) (h : s.flag ev = true) :
    (takeAspirateEnd src oven s).flag ev = true := by
  simpa [State.flag] using h

@[simp] theorem takeOven_flag (ev : EventFlag) (src : Nat) (oven : Nat) (summary : Summary) (minutes : Nat) (s : State)
    (h : s.flag ev = true) :
    (takeOven src oven summary minutes s).flag ev = true := by
  unfold takeOven; (repeat' split) <;> simp (maxDischargeDepth := 20) [h]

@[simp] theorem setPeer_flag (ev : EventFlag) (n : Nat) (p : Peer) (s : State) (h : s.flag ev = true) :
    (setPeer n p s).flag ev = true := by
  simpa [State.flag] using h

@[simp] theorem conflictIf_flag (ev : EventFlag) (before : State) (s : State) (h : s.flag ev = true) :
    (conflictIf before s).flag ev = true := by
  simp (maxDischargeDepth := 20) [conflictIf, h]

@[simp] theorem hearPeer_flag (ev : EventFlag) (src : Nat) (b : Standing) (s : State) (h : s.flag ev = true) :
    (hearPeer src b s).flag ev = true := by
  simp only [hearPeer]; (repeat' split) <;> simp (maxDischargeDepth := 20) [h]

@[simp] theorem adoptMinute_flag (ev : EventFlag) (src : Nat) (b : Standing) (s : State) (h : s.flag ev = true) :
    (adoptMinute src b s).flag ev = true := by
  simp only [adoptMinute]; (repeat' split) <;> simp (maxDischargeDepth := 20) [h]

@[simp] theorem fillClaimant_flag (ev : EventFlag) (src : Nat) (b : Standing) (s : State) (h : s.flag ev = true) :
    (fillClaimant src b s).flag ev = true := by
  simpa [State.flag] using h

@[simp] theorem standingTickets_flag (ev : EventFlag) (src : Nat) (b : Standing) (s : State) (h : s.flag ev = true) :
    (standingTickets src b s).flag ev = true := by
  simp only [standingTickets]; (repeat' split) <;> simp (maxDischargeDepth := 20) [h]

@[simp] theorem standingRoster_flag (ev : EventFlag) (src : Nat) (b : Standing) (s : State) (h : s.flag ev = true) :
    (standingRoster src b s).flag ev = true := by
  unfold standingRoster; (repeat' split) <;> simp (maxDischargeDepth := 20) [h]

@[simp] theorem standingJoin_flag (ev : EventFlag) (b : Standing) (s : State) (h : s.flag ev = true) :
    (standingJoin b s).flag ev = true := by
  simpa [State.flag] using h

@[simp] theorem takeStanding_flag (ev : EventFlag) (src : Nat) (b : Standing) (s : State) (h : s.flag ev = true) :
    (takeStanding src b s).flag ev = true := by
  unfold takeStanding; (repeat' split) <;> simp (maxDischargeDepth := 20) [h]

@[simp] theorem startHaltIn_flag (ev : EventFlag) (l : LineState) (s : State) (h : s.flag ev = true) :
    (startHaltIn l s).flag ev = true := by
  simp (maxDischargeDepth := 20) [startHaltIn, h]

@[simp] theorem beginAttempt_flag (ev : EventFlag) (s : State) (h : s.flag ev = true) :
    (beginAttempt s).flag ev = true := by
  simpa [State.flag] using h

@[simp] theorem loseAttempt_flag (ev : EventFlag) (a : Attempt) (s : State) (h : s.flag ev = true) :
    (loseAttempt a s).flag ev = true := by
  simpa [State.flag] using h

@[simp] theorem failAttempt_flag (ev : EventFlag) (a : Attempt) (s : State) (h : s.flag ev = true) :
    (failAttempt a s).flag ev = true := by
  simp only [failAttempt]; (repeat' split) <;> simp (maxDischargeDepth := 20) [h]

@[simp] theorem transmitErrorTaken_flag (ev : EventFlag) (a : Attempt) (s : State) (h : s.flag ev = true) :
    (transmitErrorTaken a s).flag ev = true := by
  simp only [transmitErrorTaken]; (repeat' split) <;> simp (maxDischargeDepth := 20) [h]

@[simp] theorem completeAttempt_flag (ev : EventFlag) (a : Attempt) (s : State) (h : s.flag ev = true) :
    (completeAttempt a s).flag ev = true := by
  unfold completeAttempt; split <;> simp (maxDischargeDepth := 20) [h]

@[simp] theorem endWithdrawal_flag (ev : EventFlag) (s : State) (h : s.flag ev = true) :
    (endWithdrawal s).flag ev = true := by
  simpa [State.flag] using h

@[simp] theorem lapsePeer_flag (ev : EventFlag) (n : Nat) (s : State) (h : s.flag ev = true) :
    (lapsePeer n s).flag ev = true := by
  simp only [lapsePeer]; (repeat' split) <;> simp (maxDischargeDepth := 20) [h]

@[simp] theorem advanceMinute_flag (ev : EventFlag) (s : State) (h : s.flag ev = true) :
    (advanceMinute s).flag ev = true := by
  simp only [advanceMinute]; (repeat' split) <;> simp (maxDischargeDepth := 20) [h]

@[simp] theorem assentExpires_flag (ev : EventFlag) (s : State) (h : s.flag ev = true) :
    (assentExpires s).flag ev = true := by
  unfold assentExpires; split <;> simp (maxDischargeDepth := 20) [h]

@[simp] theorem spotExpires_flag (ev : EventFlag) (s : State) (h : s.flag ev = true) :
    (spotExpires s).flag ev = true := by
  unfold spotExpires; split <;> simp (maxDischargeDepth := 20) [h]

@[simp] theorem doorOffExpires_flag (ev : EventFlag) (s : State) (h : s.flag ev = true) :
    (doorOffExpires s).flag ev = true := by
  simp (maxDischargeDepth := 20) [doorOffExpires, h]

@[simp] theorem mapDoorLine_flag (ev : EventFlag) (slot : Nat) (side : Side) (l : DoorLine) (f : Rejected → Rejected) (s : State)
    (h : s.flag ev = true) :
    (mapDoorLine slot side l f s).flag ev = true := by
  unfold mapDoorLine; split <;> simp (maxDischargeDepth := 20) [h]

@[simp] theorem mapRejected_flag (ev : EventFlag) (l : RejectLine) (f : Rejected → Rejected) (s : State)
    (h : s.flag ev = true) :
    (mapRejected l f s).flag ev = true := by
  unfold mapRejected; (repeat' split) <;> first | simp (maxDischargeDepth := 20) [h] | simpa [State.flag] using h

@[simp] theorem changeInput_flag (ev : EventFlag) (l : RejectLine) (level : Bool) (s : State) (h : s.flag ev = true) :
    (changeInput l level s).flag ev = true := by
  simp only [changeInput]; (repeat' split) <;> simp (maxDischargeDepth := 20) [h]

@[simp] theorem latchChange_flag (ev : EventFlag) (k : Nat) (slot : Nat) (side : Side) (level : Bool) (s : State)
    (h : s.flag ev = true) :
    (latchChange k slot side level s).flag ev = true := by
  unfold latchChange; split <;> simp (maxDischargeDepth := 20) [h]

@[simp] theorem leakChange_flag (ev : EventFlag) (k : Nat) (side : Side) (level : Bool) (s : State)
    (h : s.flag ev = true) :
    (leakChange k side level s).flag ev = true := by
  unfold leakChange; split <;> simp (maxDischargeDepth := 20) [h]

@[simp] theorem actOnChange_flag (ev : EventFlag) (l : RejectLine) (level : Bool) (s : State) (h : s.flag ev = true) :
    (actOnChange l level s).flag ev = true := by
  unfold actOnChange; (repeat' split) <;> simp (maxDischargeDepth := 20) [h]

@[simp] theorem acceptChange_flag (ev : EventFlag) (l : RejectLine) (level : Bool) (s : State)
    (h : s.flag ev = true) :
    (acceptChange l level s).flag ev = true := by
  simp (maxDischargeDepth := 20) [acceptChange, h]

@[simp] theorem beginScan_flag (ev : EventFlag) (s : State) (h : s.flag ev = true) :
    (beginScan s).flag ev = true := by
  simpa [State.flag] using h

@[simp] theorem becomeStable_flag (ev : EventFlag) (s : State) (h : s.flag ev = true) :
    (becomeStable s).flag ev = true := by
  simpa [State.flag] using h

@[simp] theorem settleExpires_flag (ev : EventFlag) (k : Nat) (s : State) (h : s.flag ev = true) :
    (settleExpires k s).flag ev = true := by
  simpa [State.flag] using h

@[simp] theorem hotTravelExpires_flag (ev : EventFlag) (s : State) (h : s.flag ev = true) :
    (hotTravelExpires s).flag ev = true := by
  simp (maxDischargeDepth := 20) [hotTravelExpires, h]

@[simp] theorem answer_flag (ev : EventFlag) (a : Answer) (s : State) (h : s.flag ev = true) :
    (answer a s).flag ev = true := by
  simpa [State.flag] using h

@[simp] theorem answerData_flag (ev : EventFlag) (d : List Byte) (s : State) (h : s.flag ev = true) :
    (answerData d s).flag ev = true := by
  simpa [State.flag] using h

@[simp] theorem endCharge_flag (ev : EventFlag) (oven : Nat) (k : Nat) (s : State) (h : s.flag ev = true) :
    (endCharge oven k s).flag ev = true := by
  unfold endCharge; split <;> simp (maxDischargeDepth := 20) [h]

@[simp] theorem reseatDoors_flag (ev : EventFlag) (k : Nat) (sides : List Side) (s : State) (h : s.flag ev = true) :
    (reseatDoors k sides s).flag ev = true :=
  foldl_preserves (fun x => x.flag ev = true) _ _ (fun x b hx => by simp [hx]) s h

@[simp] theorem takeConfigWrite_flag (ev : EventFlag) (offset : Nat) (bytes : List Byte) (s : State)
    (h : s.flag ev = true) :
    (takeConfigWrite offset bytes s).flag ev = true := by
  unfold takeConfigWrite; (repeat' split) <;> simp (maxDischargeDepth := 20) [h]

@[simp] theorem takeRestart_flag (ev : EventFlag) (s : State) (h : s.flag ev = true) :
    (takeRestart s).flag ev = true := by
  unfold takeRestart; (repeat' split) <;> first | simp (maxDischargeDepth := 20) [h] | simpa [State.flag] using h

@[simp] theorem takeMask_flag (ev : EventFlag) (w : BitVec 24) (s : State) (h : s.flag ev = true) :
    (takeMask w s).flag ev = true := by
  unfold takeMask; (repeat' split) <;> first | simp (maxDischargeDepth := 20) [h] | simpa [State.flag] using h

@[simp] theorem withdrawFrame_flag (ev : EventFlag) (f : Frame) (removed : State → State) (s : State)
    (hr : ∀ x : State, x.flag ev = true → (removed x).flag ev = true) (h : s.flag ev = true) :
    (withdrawFrame f removed s).flag ev = true :=
  withdrawFrame_preserves (fun x => x.flag ev = true) f removed (fun p x hx => by simp [hx]) hr s h

@[simp] theorem judgePush_flag (ev : EventFlag) (s : State)
    (h : s.flag ev = true) : (judgePush s).flag ev = true := by
  unfold judgePush
  split
  · rename_i r c _ _
    dsimp only
    have h1 : (if (s.readbacks r).doorsOff = true then mapContext (fun c => { c with doorOff := .stopped }) s
        else s).flag ev = true := by split <;> simp [h]
    generalize (if (s.readbacks r).doorsOff = true then mapContext (fun c => { c with doorOff := .stopped }) s
      else s) = x at h1 ⊢
    split
    · simp [h1]
    · split
      · simp [h1]
      · split
        · exact withdrawFrame_flag ev _ _ x (fun y hy => by simp [hy]) h1
        · exact h1
  · exact h

@[simp] theorem readBack_flag (ev : EventFlag) (m : Bool) (s : State) (h : s.flag ev = true) :
    (readBack m s).flag ev = true := by
  unfold readBack
  split
  · exact h
  · (repeat' split) <;> first | (apply startNextWrite_flag; first | (apply raise_flag; exact h) | exact h) | exact h

@[simp] theorem finishSection_flag (ev : EventFlag) (b : List Oven) (s : State) (h : s.flag ev = true) :
    (finishSection b s).flag ev = true := by
  unfold finishSection; simp (maxDischargeDepth := 20) [h]

@[simp] theorem finish_flag (ev : EventFlag) (s0 s : State)
    (h : s.flag ev = true) : (finish s0 s).flag ev = true := by
  unfold finish; (repeat' split) <;> simp [h]

@[simp] theorem recordCounts_flag (ev : EventFlag) (a b : Nat) (s : State) (h : s.flag ev = true) :
    (recordCounts a b s).flag ev = true := by
  unfold recordCounts; exact raiseIf_flag _ _ _ _ h

@[simp] theorem event_flag (ev : EventFlag) (f : State → State) (s : State) (h : (f s).flag ev = true) :
    (event f s).flag ev = true := finish_flag ev s _ h

end Sys2Proof.Machine
end

