-- ==== Sys2Proof/Laws/Closing.lean ====
section
/-! SUPPORT. What handing a frame to the units and closing a record do, once for all the commands that end so: one lemma
for each shared operation on the way, that says everything it can do (R70, R71, R79, R85, R92, R93, R101, R164). -/

namespace Sys2Proof.Machine

/-! ### A frame handed to the units -/

/-- The end of an event depends on the state the event began in only through what it compares. -/
theorem finish_congr {s0 s1 : State} (s : State) (ho : s0.sched.ovens = s1.sched.ovens)
    (ht : s0.ticket = s1.ticket) (hc : s0.car.doorHeld = s1.car.doorHeld) : finish s0 s = finish s1 s := by
  simp only [finish, finishCar, State.judgesRam, ho, ht, hc]

/-- The state in which a frame handed to the units finds them: the own frame gone from the receive stream, a peer's
counted. -/
def handed (src : Nat) (s : State) : State :=
  if src = s.own then takeOwn (endCutOff s) else countRxGood (endCutOff s)

/-- A station on the line runs. -/
theorem running_of_onLine {s : State} (h : s.onLine = true) : s.running = true := by
  unfold State.onLine at h; unfold State.running; cases hs : s.line.state <;> simp_all

/-- A frame handed to the units is taken as one event of the state they find (R25, R31, R39). -/
theorem receive_handsOn {s : State} {src : Nat} {f : Frame} (take : State → State) (h : s.handsOn src f = true) :
    receive src f take s = finish s (take (handed src s)) := by
  simp only [State.handsOn, Bool.and_eq_true] at h
  obtain ⟨⟨⟨hl, hv⟩, hb⟩, hs⟩ := h
  have hr := running_of_onLine hl
  have hl' : (endCutOff s).onLine = true := hl
  have ho : (endCutOff s).own = s.own := rfl
  unfold receive handed
  simp only [hr, hv, hb, hl', ho, if_true, Bool.and_self]
  split
  · rename_i e
    rw [if_pos e] at hs
    have : (endCutOff s).returning f = true := hs
    rw [if_pos this]
    exact finish_congr _ rfl rfl rfl
  · rename_i e
    rw [if_neg e] at hs
    have : (endCutOff s).gatePasses src f = true := hs
    rw [if_pos this]
    exact finish_congr _ (by simp [endCutOff]) (by simp [endCutOff]) (by simp [endCutOff])

/-- Handing a frame on touches the line unit alone. -/
@[simp] theorem handed_frame (src : Nat) (s : State) :
    (handed src s).pending = s.pending ∧ (handed src s).pins = s.pins ∧ (handed src s).resetRecord = s.resetRecord ∧
    (handed src s).cfg = s.cfg ∧ (handed src s).fresh = s.fresh ∧ (handed src s).line.state = s.line.state ∧
    (handed src s).line.q0 = s.line.q0 ∧ (handed src s).line.q1 = s.line.q1 ∧ (handed src s).line.q2 = s.line.q2 ∧
    (handed src s).line.q3 = s.line.q3 ∧ (handed src s).line.attempt = s.line.attempt ∧
    (handed src s).line.dropped = s.line.dropped ∧
    (handed src s).peer = s.peer ∧ (handed src s).ticket = s.ticket ∧ (handed src s).sched = s.sched ∧
    (handed src s).door = s.door ∧ (handed src s).press = s.press ∧ (handed src s).car = s.car ∧
    (handed src s).store = s.store ∧ (handed src s).panel = s.panel := by
  unfold handed; split <;> simp [takeOwn, endCutOff, countRxGood]

/-! ### Doors, ovens and store requests -/

/-- A change of a door that is no entry into LEAKING or FAULT changes that door alone. -/
theorem changeDoor_eq (k : Nat) (side : Side) (f : Door → Door) (s : State) (pair : DoorPair) (h : s.door[k]? = some pair)
    (hl : ¬((pair.get side).state = .sealed ∧ (f (pair.get side)).state = .leaking))
    (hf : ¬((pair.get side).state ≠ .fault ∧ (f (pair.get side)).state = .fault)) :
    changeDoor k side f s = { s with door := s.door.set k (pair.put side (f (pair.get side))) } := by
  unfold changeDoor
  simp only [h]
  have h1 : (decide ((pair.get side).state = .sealed) && decide ((f (pair.get side)).state = .leaking)) = false := by
    simpa using hl
  have h2 : (decide ((pair.get side).state ≠ .fault) && decide ((f (pair.get side)).state = .fault)) = false := by
    simpa using hf
  rw [h1, h2]; rfl

/-- The same for both doors of a slot. -/
theorem changeDoors_eq (k : Nat) (f : Bool → Door → Door) (s : State) (pair : DoorPair) (h : s.door[k]? = some pair)
    (hl : ∀ b d, ¬(d.state = .sealed ∧ (f b d).state = .leaking))
    (hf : ∀ b d, ¬(d.state ≠ .fault ∧ (f b d).state = .fault)) :
    changeDoors k f s = { s with
      door := s.door.set k ⟨f (s.sealLevel (k + 1) .pusherSide) pair.p, f (s.sealLevel (k + 1) .cokeSide) pair.c⟩ } := by
  unfold changeDoors
  rw [changeDoor_eq k .pusherSide _ s pair h (hl _ _) (hf _ _)]
  have hk : k < s.door.length := (List.getElem?_eq_some_iff.1 h).1
  have h' : (s.door.set k (pair.put .pusherSide (f (s.sealLevel (k + 1) .pusherSide) (pair.get .pusherSide))))[k]? =
      some (pair.put .pusherSide (f (s.sealLevel (k + 1) .pusherSide) (pair.get .pusherSide))) := by
    simp [hk]
  rw [changeDoor_eq k .cokeSide _ _ _ h' (hl _ _) (hf _ _)]
  simp [DoorPair.put, DoorPair.get]

/-- The end of the deflate order changes the slot's two doors alone (R164). -/
theorem endDeflate_eq (k : Nat) (s : State) (pair : DoorPair) (h : s.door[k]? = some pair) :
    endDeflate k s = { s with
      door := s.door.set k ⟨pair.p.orderEnds s.cfg (s.sealLevel (k + 1) .pusherSide),
        pair.c.orderEnds s.cfg (s.sealLevel (k + 1) .cokeSide)⟩ } := by
  unfold endDeflate
  exact changeDoors_eq k (fun sealOn d => d.orderEnds s.cfg sealOn) s pair h
    (by intro b d; unfold Door.orderEnds Door.enterInflating Door.enterSealed Door.stopped; (repeat' split) <;> simp_all)
    (by intro b d; unfold Door.orderEnds Door.enterInflating Door.enterSealed Door.stopped; (repeat' split) <;> simp_all)

/-- A slot without door records has no door to change. -/
theorem changeDoors_none (k : Nat) (f : Bool → Door → Door) (s : State) (h : s.door[k]? = none) :
    changeDoors k f s = s := by
  have h1 : ∀ side g, changeDoor k side g s = s := by intro side g; unfold changeDoor; simp [h]
  unfold changeDoors; rw [h1, h1]

/-- The end of the deflate order sets no flag. -/
theorem endDeflate_events (k : Nat) (s : State) : (endDeflate k s).panel = s.panel := by
  cases h : s.door[k]? with
  | none => unfold endDeflate; rw [changeDoors_none _ _ _ h]
  | some pair => rw [endDeflate_eq k s pair h]

/-- Giving the deflate order changes the slot's two doors alone (R163). -/
theorem giveDeflate_eq (k : Nat) (s : State) (pair : DoorPair) (h : s.door[k]? = some pair) :
    giveDeflate k s = { s with door := s.door.set k ⟨pair.p.orderGiven, pair.c.orderGiven⟩ } := by
  unfold giveDeflate
  exact changeDoors_eq k (fun _ d => d.orderGiven) s pair h
    (by intro b d; unfold Door.orderGiven Door.enterDeflated Door.stopped; split <;> simp_all)
    (by intro b d; unfold Door.orderGiven Door.enterDeflated Door.stopped; split <;> simp_all)

theorem want_mem (r : RecordId) (s : State) : r ∈ (want r s).store.wanted := by
  by_cases h : r ∈ s.store.wanted <;> simp [want, State.mapStore, h]

theorem want_mono (r x : RecordId) (s : State) (h : x ∈ s.store.wanted) : x ∈ (want r s).store.wanted := by
  by_cases hr : r ∈ s.store.wanted <;> simp [want, State.mapStore, hr, h]

/-- A change of an oven record sets it, and asks for it as R62 says. -/
theorem changeOven_ovens (k : Nat) (f : Oven → Oven) (s : State) (o : Oven) (h : s.sched.ovens[k]? = some o) :
    (changeOven k f s).sched.ovens = s.sched.ovens.set k (f o) ∧
    (o.state ≠ (f o).state → RecordId.ovenOf k ∈ (changeOven k f s).store.wanted) ∧
    (∀ r ∈ s.store.wanted, r ∈ (changeOven k f s).store.wanted) := by
  unfold changeOven
  simp only [h]
  split
  · rename_i hc
    exact ⟨rfl, fun hn => absurd hc.1 hn, fun r hr => hr⟩
  · exact ⟨rfl, fun _ => want_mem _ _, fun r hr => want_mono _ _ _ hr⟩

@[simp] theorem setCursor_ovens (n : Nat) (s : State) : (setCursor n s).sched.ovens = s.sched.ovens := by
  unfold setCursor; split <;> rfl

theorem setCursor_wanted (n : Nat) (x : RecordId) (s : State) (h : x ∈ s.store.wanted) :
    x ∈ (setCursor n s).store.wanted := by
  unfold setCursor; split
  · exact h
  · exact want_mono _ _ _ h

/-- Settling a claim touches ovens' claim-pending flags alone. -/
theorem settleClaim_oven (b : Bool) (s : State) (k : Nat) (o : Oven) (h : s.sched.ovens[k]? = some o) :
    ∃ p, (settleClaim b s).sched.ovens[k]? = some { o with pending := p } := by
  unfold settleClaim
  split
  · exact ⟨o.pending, h⟩
  · rename_i c _
    simp only [State.mapSched, State.mapTicket, List.getElem?_map, h, Option.map_some]
    split
    · exact ⟨false, rfl⟩
    · exact ⟨o.pending, rfl⟩

theorem withdrawFrames_sched (p : Frame → Bool) (s : State) : (withdrawFrames p s).sched = s.sched := rfl

/-- Withdrawing a claim touches ovens' claim-pending flags alone. -/
theorem withdrawClaim_oven (s : State) (k : Nat) (o : Oven) (h : s.sched.ovens[k]? = some o) :
    ∃ p, (withdrawClaim s).sched.ovens[k]? = some { o with pending := p } := by
  unfold withdrawClaim
  split
  · exact ⟨o.pending, h⟩
  · unfold withdrawFrame
    split
    · dsimp only; split
      · exact ⟨o.pending, h⟩
      · exact settleClaim_oven _ _ _ _ h
    · exact ⟨o.pending, h⟩

/-- Withdrawing a claim leaves the backoff as it is, or starts it (R84). -/
theorem withdrawClaim_backoff (s : State) (b : Timer) (h : s.ticket.backoff = b) :
    (withdrawClaim s).ticket.backoff = b ∨ (withdrawClaim s).ticket.backoff = some (1000 * s.cfg.claimBackoff) := by
  unfold withdrawClaim
  split
  · exact .inl h
  · unfold withdrawFrame
    split
    · dsimp only; split
      · exact .inl h
      · unfold settleClaim; split
        · exact .inl h
        · exact .inr rfl
    · exact .inl h

theorem withdrawClaim_none (s : State) (h : s.ticket.claim = none) : withdrawClaim s = s := by
  unfold withdrawClaim; simp [h]

/-- So does starting the pacing timer. -/
theorem startPacing_oven (s : State) (k : Nat) (o : Oven) (h : s.sched.ovens[k]? = some o) :
    ∃ p, (startPacing s).sched.ovens[k]? = some { o with pending := p } := by
  unfold startPacing; split
  · exact withdrawClaim_oven _ _ _ h
  · exact ⟨o.pending, h⟩

theorem startPacing_backoff (s : State) (b : Timer) (h : s.ticket.backoff = b) :
    (startPacing s).ticket.backoff = b ∨ (startPacing s).ticket.backoff = some (1000 * s.cfg.claimBackoff) := by
  unfold startPacing; split
  · exact withdrawClaim_backoff _ _ h
  · exact .inl h

theorem startPacing_noClaim (s : State) (h : s.ticket.claim = none) :
    (startPacing s).ticket.backoff = s.ticket.backoff ∧ (startPacing s).sched = s.sched := by
  unfold startPacing; split
  · rw [withdrawClaim_none _ (by simpa using h)]; simp
  · simp

theorem startPacing_pacing (s : State) (h : s.resetRecord.role = .ovens) :
    (startPacing s).ticket.pacing = some (1000 * s.cfg.pacingTime) := by
  unfold startPacing; simp [h, startSeconds]

/-! ### TICKET_ABANDONED is set by a closing alone -/

/-- A flag raised is that flag alone (R200). -/
theorem raise_other (e e' : EventFlag) (s : State) (h : e ≠ e') : (raise e s).flag e' = s.flag e' := by
  unfold State.flag raise
  cases e <;> cases e' <;> simp_all [EventFlag.word, EventFlag.bit]

theorem countTxDrop_ticketAbandoned (s : State) : (countTxDrop s).flag .ticketAbandoned = s.flag .ticketAbandoned := by
  unfold countTxDrop; rw [raise_other _ _ _ (by decide)]; rfl

/-- The flags are read from the panel unit. -/
theorem flag_panel {s t : State} (e : EventFlag) (h : t.panel = s.panel) : t.flag e = s.flag e := by
  unfold State.flag; rw [h]

theorem offer_ticketAbandoned (f : Frame) (s : State) : (offer f s).flag .ticketAbandoned = s.flag .ticketAbandoned := by
  unfold offer
  (repeat' split) <;> first | rfl | skip
  rw [flag_panel (s := countTxDrop s) _ (by simp), countTxDrop_ticketAbandoned]

theorem declineRemoved_ticketAbandoned (m : Move) (s : State) :
    (declineRemoved m s).flag .ticketAbandoned = s.flag .ticketAbandoned := by
  unfold declineRemoved; (repeat' split) <;> first | rfl | exact offer_ticketAbandoned _ _

theorem queueHead_ticketAbandoned (m : Move) (s : State) :
    (queueHead m s).flag .ticketAbandoned = s.flag .ticketAbandoned := by
  unfold queueHead; (repeat' split) <;> first | rfl | (dsimp only; first | rfl | (rw [declineRemoved_ticketAbandoned]; rfl))

theorem setQuench_panel (p : QuenchPhase) (s : State) : (setQuench p s).panel = s.panel := by
  unfold setQuench; dsimp only; split <;> rfl

theorem closeAtQuench_ticketAbandoned (s : State) : (closeAtQuench s).flag .ticketAbandoned = s.flag .ticketAbandoned := by
  unfold closeAtQuench
  split
  · have h := queueHead_ticketAbandoned ⟨.tower, some s.cfg.towerMarker, none⟩ (setQuench .loaded s)
    rw [flag_panel _ (setQuench_panel _ _)] at h
    generalize queueHead ⟨.tower, some s.cfg.towerMarker, none⟩ (setQuench .loaded s) = q at h
    rw [← h]
    exact flag_panel _ (by simp)
  · split <;> rfl
  all_goals rfl

theorem carClosing_ticketAbandoned (r : Record) (s : State) :
    (carClosing r s).flag .ticketAbandoned = s.flag .ticketAbandoned := by
  unfold carClosing
  dsimp only
  (repeat' split) <;> first | rfl | (rw [closeAtQuench_ticketAbandoned]; rfl)

theorem offer_decline (t : Ticket) (o : Nat) (k : CarKind) (w : DeclineReason) (s : State) :
    (offer (.decline t o k w) s).ticket = s.ticket ∧ (offer (.decline t o k w) s).sched = s.sched := by
  unfold offer; (repeat' split) <;> simp [onDrop]

theorem declineRemoved_keep (m : Move) (s : State) :
    (declineRemoved m s).ticket = s.ticket ∧ (declineRemoved m s).sched = s.sched := by
  unfold declineRemoved; (repeat' split) <;> first | exact ⟨rfl, rfl⟩ | exact offer_decline _ _ _ _ _

theorem queueHead_keep (m : Move) (s : State) :
    (queueHead m s).ticket = s.ticket ∧ (queueHead m s).sched = s.sched := by
  unfold queueHead; dsimp only; (repeat' split) <;> first | exact ⟨rfl, rfl⟩ | exact declineRemoved_keep _ _

theorem setQuench_keep (p : QuenchPhase) (s : State) :
    (setQuench p s).ticket = s.ticket ∧ (setQuench p s).sched = s.sched ∧
    (∀ x ∈ s.store.wanted, x ∈ (setQuench p s).store.wanted) := by
  unfold setQuench; dsimp only; split
  · exact ⟨rfl, rfl, fun _ h => h⟩
  · exact ⟨rfl, rfl, fun _ h => want_mono _ _ _ h⟩

theorem queueHead_store (m : Move) (s : State) : (queueHead m s).store = s.store := by simp

theorem closeAtQuench_keep (s : State) :
    (closeAtQuench s).ticket = s.ticket ∧ (closeAtQuench s).sched = s.sched ∧
    (∀ x ∈ s.store.wanted, x ∈ (closeAtQuench s).store.wanted) := by
  unfold closeAtQuench
  split
  · have h1 := queueHead_keep ⟨.tower, some s.cfg.towerMarker, none⟩ (setQuench .loaded s)
    have h2 := setQuench_keep .loaded s
    have h3 := queueHead_store ⟨.tower, some s.cfg.towerMarker, none⟩ (setQuench .loaded s)
    generalize queueHead ⟨.tower, some s.cfg.towerMarker, none⟩ (setQuench .loaded s) = q at h1 h3
    refine ⟨by simp [h1.1], by simp [h1.2], ?_⟩
    intro y hy
    simp only [becomeIdle_frame, mapCar_store, h3]; exact h2.2.2 y hy
  · split <;> simp
  all_goals exact ⟨rfl, rfl, fun _ h => h⟩

/-- A closing at a car keeps the ticket and schedule units. -/
theorem carClosing_keep (r : Record) (s : State) :
    (carClosing r s).ticket = s.ticket ∧ (carClosing r s).sched = s.sched ∧
    (∀ x ∈ s.store.wanted, x ∈ (carClosing r s).store.wanted) := by
  unfold carClosing
  dsimp only
  (repeat' split) <;> first | exact ⟨rfl, rfl, fun _ h => h⟩ | exact closeAtQuench_keep _

theorem endDeflate_cong {s t : State} (k : Nat) (hd : t.door = s.door) (hc : t.cfg = s.cfg) (hp : t.pins = s.pins) :
    (endDeflate k t).door = (endDeflate k s).door := by
  have hl : ∀ a b, t.sealLevel a b = s.sealLevel a b := by intro a b; simp [State.sealLevel, State.input, hp]
  cases h : s.door[k]? with
  | none =>
    have h' : t.door[k]? = none := by rw [hd]; exact h
    unfold endDeflate; rw [changeDoors_none _ _ _ h, changeDoors_none _ _ _ h', hd]
  | some pair =>
    have h' : t.door[k]? = some pair := by rw [hd]; exact h
    rw [endDeflate_eq _ _ _ h, endDeflate_eq _ _ _ h']; simp [hd, hc, hl]

/-- What a closing leaves at the owner section (R70, R71, R114 to R116, R164). -/
theorem closeAtOwner_spec (kind : Closing) (r : Record) (k : Nat) (s : State) :
    (closeAtOwner kind r k s).door = (endDeflate k s).door ∧ (closeAtOwner kind r k s).panel = s.panel ∧
      (∀ o, s.sched.ovens[k]? = some o →
        let o' := if kind = .done then o.toEmpty else o.notDone r.phase
        (closeAtOwner kind r k s).sched.ovens = s.sched.ovens.set k o' ∧
        (o.state ≠ o'.state → RecordId.ovenOf k ∈ (closeAtOwner kind r k s).store.wanted)) ∧
      (kind ≠ .done → r.phase.beforeGone = true →
        (closeAtOwner kind r k s).ticket.backoff = some (1000 * s.cfg.claimBackoff)) ∧
      (kind = .done ∨ r.phase.beforeGone = false →
        (closeAtOwner kind r k s).ticket.backoff = s.ticket.backoff) ∧
    (∀ x ∈ s.store.wanted, x ∈ (closeAtOwner kind r k s).store.wanted) := by
  have hp : ∀ f, (changeOven k f (endDeflate k s)).panel = s.panel := by intro f; simp [endDeflate_events]
  have hw : ∀ f, ∀ x ∈ s.store.wanted, x ∈ (changeOven k f (endDeflate k s)).store.wanted := by
    intro f x hx
    have : x ∈ (endDeflate k s).store.wanted := by simpa using hx
    cases ho : s.sched.ovens[k]? with
    | none => unfold changeOven; simpa [ho] using hx
    | some o => exact (changeOven_ovens k f _ o (by simpa using ho)).2.2 x this
  have ho : ∀ f o, s.sched.ovens[k]? = some o →
      (changeOven k f (endDeflate k s)).sched.ovens = s.sched.ovens.set k (f o) ∧
      (o.state ≠ (f o).state → RecordId.ovenOf k ∈ (changeOven k f (endDeflate k s)).store.wanted) := by
    intro f o ho
    have := changeOven_ovens k f (endDeflate k s) o (by simpa using ho)
    exact ⟨by simpa using this.1, this.2.1⟩
  unfold closeAtOwner
  dsimp only
  split
  · rename_i hd
    refine ⟨by simp, hp _, ?_, by simp [hd], by simp, hw _⟩
    intro o h
    simpa [hd] using ho Oven.toEmpty o h
  · rename_i hd
    split
    · rename_i hb
      refine ⟨by simp [startBackoff], hp _, ?_, ?_, by simp [hd, hb], hw _⟩
      · intro o h
        simpa [hd] using ho (Oven.notDone r.phase) o h
      · intro _ _; simp [startBackoff, startSeconds]
    · rename_i hb
      refine ⟨by simp, hp _, ?_, by simp [hb], by simp, hw _⟩
      intro o h
      simpa [hd] using ho (Oven.notDone r.phase) o h

/-- What closing a record leaves. -/
theorem closeRecord_spec (kind : Closing) (s : State) (r : Record) (h : s.ticket.record = some r) :
    (closeRecord kind s).ticket.record = none ∧ (closeRecord kind s).ticket.context = none ∧
    (closeRecord kind s).flag .ticketAbandoned = (s.flag .ticketAbandoned || decide (kind ≠ .done)) ∧
    (kind = .done → s.resetRecord.role = .ovens → (closeRecord kind s).panel.events = s.panel.events) ∧
    (s.resetRecord.role = .car → (closeRecord kind s).door = s.door ∧ (closeRecord kind s).sched = s.sched) ∧
    (s.resetRecord.role = .ovens → s.slotOf r.oven = none →
      (closeRecord kind s).door = s.door ∧ (closeRecord kind s).sched = s.sched) ∧
    (∀ k, s.resetRecord.role = .ovens → s.slotOf r.oven = some k →
      (closeRecord kind s).door = (endDeflate k s).door ∧
      (∀ o, s.sched.ovens[k]? = some o →
        let o' := if kind = .done then o.toEmpty else o.notDone r.phase
        (closeRecord kind s).sched.ovens = s.sched.ovens.set k o' ∧
        (o.state ≠ o'.state → RecordId.ovenOf k ∈ (closeRecord kind s).store.wanted)) ∧
      (kind ≠ .done → r.phase.beforeGone = true →
        (closeRecord kind s).ticket.backoff = some (1000 * s.cfg.claimBackoff)) ∧
      (kind = .done ∨ r.phase.beforeGone = false →
        (closeRecord kind s).ticket.backoff = s.ticket.backoff)) ∧
    (∀ x ∈ s.store.wanted, x ∈ (closeRecord kind s).store.wanted) ∧
    (closeRecord kind s).ticket.claim = s.ticket.claim ∧
    (kind = .done ∨ r.phase.beforeGone = false ∨ s.resetRecord.role = .car ∨ s.slotOf r.oven = none →
      (closeRecord kind s).ticket.backoff = s.ticket.backoff) := by
  have hs : closeRecord kind s = (
      let s1 := raiseIf (decide (kind ≠ .done)) .ticketAbandoned
        ((forgetDropped r.ticket r.oven (withdrawOpenGo r s)).mapTicket fun u => { u with record := none, context := none })
      match s.resetRecord.role with
      | .car => carClosing r s1
      | .ovens => match s.slotOf r.oven with
        | some k => closeAtOwner kind r k s1
        | none => s1) := by
    unfold closeRecord; rw [h]; dsimp only
    have e1 : ∀ x : State, (raiseIf (decide (kind ≠ .done)) .ticketAbandoned x).resetRecord = x.resetRecord := by simp
    have e2 : (raiseIf (decide (kind ≠ .done)) .ticketAbandoned
        ((forgetDropped r.ticket r.oven (withdrawOpenGo r s)).mapTicket fun u =>
          { u with record := none, context := none })).slotOf r.oven = s.slotOf r.oven := by
      simp [State.slotOf]
    rw [e1, e2]
    have e3 : (forgetDropped r.ticket r.oven (withdrawOpenGo r s)).resetRecord = s.resetRecord := by simp
    have e4 : ((forgetDropped r.ticket r.oven (withdrawOpenGo r s)).mapTicket fun u =>
          { u with record := none, context := none }).resetRecord = s.resetRecord := by simp
    rw [e4] <;> rcases s.resetRecord.role with _ | _ <;> first | rfl | (cases s.slotOf r.oven <;> rfl)
  rw [hs]
  dsimp only
  generalize hx : raiseIf (decide (kind ≠ .done)) .ticketAbandoned
        ((forgetDropped r.ticket r.oven (withdrawOpenGo r s)).mapTicket fun u =>
          { u with record := none, context := none }) = x
  have f1 : x.ticket.record = none := by subst hx; simp
  have f2 : x.ticket.context = none := by subst hx; simp
  have f3 : x.flag .ticketAbandoned = (s.flag .ticketAbandoned || decide (kind ≠ .done)) := by
    subst hx
    have : (forgetDropped r.ticket r.oven (withdrawOpenGo r s)).flag .ticketAbandoned = s.flag .ticketAbandoned :=
      flag_panel _ (by simp)
    unfold raiseIf
    split <;> simp_all
  have f4 : kind = .done → x.panel = s.panel := by intro hk; subst hx; subst hk; simp [raiseIf]
  have f5 : x.door = s.door := by subst hx; simp
  have f6 : x.sched = s.sched := by subst hx; simp
  have f7 : x.store = s.store := by subst hx; simp
  have f12 : x.ticket.claim = s.ticket.claim := by subst hx; simp
  have f8 : x.ticket.backoff = s.ticket.backoff := by subst hx; simp
  have f9 : x.cfg = s.cfg := by subst hx; simp
  have f10 : x.pins = s.pins := by subst hx; simp
  clear hx hs
  cases hr : s.resetRecord.role with
  | car =>
    dsimp only
    refine ⟨?_, ?_, ?_, by simp, ?_, by simp, by simp, ?_, by rw [(carClosing_keep r x).1, f12],
      fun _ => by rw [(carClosing_keep r x).1, f8]⟩
    · simp [f1]
    · rw [(carClosing_keep r x).1, f2]
    · rw [carClosing_ticketAbandoned, f3]
    · intro _; exact ⟨by simp [f5], by rw [(carClosing_keep r x).2.1, f6]⟩
    · intro y hy; exact (carClosing_keep r x).2.2 y (by rw [f7]; exact hy)
  | ovens =>
    dsimp only
    cases hk : s.slotOf r.oven with
    | none =>
      dsimp only
      exact ⟨f1, f2, f3, fun hk _ => by rw [f4 hk], by simp, fun _ _ => ⟨f5, f6⟩, by simp,
        by rw [f7]; simp, f12, fun _ => f8⟩
    | some k =>
      dsimp only
      have hc := closeAtOwner_spec kind r k x
      refine ⟨by simp [f1], by simp [f2], ?_, ?_, by simp, by simp, ?_, ?_, by simp [f12], ?_⟩
      · rw [flag_panel _ hc.2.1, f3]
      · intro hk _; rw [hc.2.1, f4 hk]
      · intro k' _ hk'
        cases hk'
        refine ⟨hc.1.trans (endDeflate_cong _ f5 f9 f10), ?_, ?_, ?_⟩
        · intro o ho
          have := hc.2.2.1 o (by rw [f6]; exact ho)
          rw [f6] at this; exact this
        · intro h1 h2; rw [hc.2.2.2.1 h1 h2, f9]
        · intro h1; rw [hc.2.2.2.2.1 h1, f8]
      · intro y hy; exact hc.2.2.2.2.2 y (by rw [f7]; exact hy)
      · intro h1; rw [hc.2.2.2.2.1 (by simpa using h1), f8]

/-! ### Adopting a last-done -/

/-- Last-done takes the value and the station record is asked for (R79). -/
theorem setLastDone_spec (t : Ticket) (s : State) :
    (setLastDone t s).ticket.lastDone = t ∧ RecordId.station ∈ (setLastDone t s).store.wanted ∧
    ∀ x ∈ s.store.wanted, x ∈ (setLastDone t s).store.wanted := by
  unfold setLastDone
  refine ⟨by simp, want_mem _ _, fun x h => want_mono _ _ _ h⟩

theorem setCursor_cursor (n : Nat) (s : State) : (setCursor n s).sched.cursor = n := by
  unfold setCursor; split
  · assumption
  · rfl

/-- What adopting a DONE leaves (R79, R84, R85, R92, R93). -/
theorem adoptDone_spec (t : Ticket) (oven : Nat) (s : State) :
    (adoptDone t oven s).ticket.lastDone = t ∧ RecordId.station ∈ (adoptDone t oven s).store.wanted ∧
    (∀ x ∈ s.store.wanted, x ∈ (adoptDone t oven s).store.wanted) ∧
    (s.resetRecord.role = .ovens → (adoptDone t oven s).sched.cursor = rankOf s.cfg oven ∧
      (adoptDone t oven s).ticket.pacing = some (1000 * s.cfg.pacingTime)) ∧
    (s.resetRecord.role = .car → (adoptDone t oven s).sched.cursor = s.sched.cursor ∧
      (adoptDone t oven s).ticket.pacing = s.ticket.pacing) ∧
    (∀ (k : Nat) (o : Oven), s.sched.ovens[k]? = some o →
      ∃ p, (adoptDone t oven s).sched.ovens[k]? = some { o with pending := p }) ∧
    (s.ticket.backoff = some (1000 * s.cfg.claimBackoff) →
      (adoptDone t oven s).ticket.backoff = some (1000 * s.cfg.claimBackoff)) ∧
    (s.ticket.claim = none → (adoptDone t oven s).ticket.backoff = s.ticket.backoff) := by
  have h1 := setLastDone_spec t s
  unfold adoptDone
  dsimp only
  have hr : (setLastDone t s).resetRecord = s.resetRecord := by simp
  rw [hr]
  generalize hx : (if s.resetRecord.role = .ovens then setCursor (rankOf s.cfg oven) (setLastDone t s)
    else setLastDone t s) = x
  have hx' : (if s.resetRecord.role = Role.ovens then setCursor (rankOf (setLastDone t s).cfg oven) (setLastDone t s)
        else setLastDone t s) = x := by rw [← hx]; simp
  rw [hx']
  have a1 : x.ticket = (setLastDone t s).ticket := by subst hx; split <;> simp
  have a2 : ∀ y ∈ (setLastDone t s).store.wanted, y ∈ x.store.wanted := by
    subst hx; split
    · exact fun y h => setCursor_wanted _ _ _ h
    · exact fun _ h => h
  have a3 : x.sched.ovens = s.sched.ovens := by subst hx; split <;> simp
  have a4 : x.cfg = s.cfg := by subst hx; split <;> simp
  have a5 : x.resetRecord = s.resetRecord := by subst hx; split <;> simp
  have a6 : s.resetRecord.role = .ovens → x.sched.cursor = rankOf s.cfg oven := by
    intro h; subst hx; rw [if_pos h, setCursor_cursor]
  have a7 : s.resetRecord.role = .car → x = setLastDone t s := by
    intro h; subst hx; simp [h]
  have a8 : (setLastDone t s).ticket.backoff = s.ticket.backoff ∧ (setLastDone t s).ticket.claim = s.ticket.claim ∧
     (setLastDone t s).ticket.pacing = s.ticket.pacing := by simp
  refine ⟨by simp [a1, h1.1], ?_, ?_, ?_, ?_, ?_, ?_, ?_⟩
  · have : (startPacing x).store = x.store := by simp
    rw [this]; exact a2 _ h1.2.1
  · have : (startPacing x).store = x.store := by simp
    rw [this]; exact fun y h => a2 _ (h1.2.2 y h)
  · intro h; exact ⟨by simp [a6 h], by rw [startPacing_pacing x (by rw [a5]; exact h), a4]⟩
  · intro h
    have e := a7 h
    have : startPacing x = x := by unfold startPacing; simp [a5, h]
    rw [this, e]; simp
  · intro k o h
    exact startPacing_oven x k o (by rw [a3]; exact h)
  · intro h
    have := startPacing_backoff x _ (by rw [a1, a8.1])
    rw [a4] at this
    rcases this with e | e
    · rw [e, h]
    · exact e
  · intro h
    have := startPacing_noClaim x (by rw [a1, a8.2.1, h])
    rw [this.1, a1, a8.1]

/-- A slot found for an oven number holds that oven. -/
theorem slot_get {s : State} {k n : Nat} (h : s.slotOf n = some k) : ∃ o, s.sched.ovens[k]? = some o ∧ o.number = n := by
  unfold State.slotOf at h
  rw [List.findIdx?_eq_some_iff_getElem] at h
  obtain ⟨hl, hp, _⟩ := h
  exact ⟨_, List.getElem?_eq_getElem hl, by simpa using hp⟩

end Sys2Proof.Machine
end

