-- ==== Sys2Proof/Laws/Judgements.lean ====
section
/-! SUPPORT. What each judgement that ends an event leaves alone of the attempt, the event flags, the frames kept after
drops, the ovens and the queue of class 0, beside what the frame lemmas say: one lemma for each judgement (log 9); and what a drop keeps. -/

namespace Sys2Proof.Machine

/-! ### A relation that each judgement keeps -/

/-- The attempt and class 3 stand, and every flag but LINK_DROP. -/
structure Quiet (s t : State) : Prop where
  attempt : t.line.attempt = s.line.attempt
  standing : t.line.q3 = s.line.q3
  flags : ∀ e : EventFlag, e ≠ .linkDrop → t.flag e = s.flag e

theorem Quiet.refl (s : State) : Quiet s s := ⟨rfl, rfl, fun _ _ => rfl⟩

theorem Quiet.trans {a b c : State} (h : Quiet a b) (g : Quiet b c) : Quiet a c :=
  ⟨g.attempt.trans h.attempt, g.standing.trans h.standing, fun e n => (g.flags e n).trans (h.flags e n)⟩

theorem Quiet.of_eq {s t : State} (hl : t.line = s.line) (hp : t.panel = s.panel) : Quiet s t :=
  ⟨by rw [hl], by rw [hl], fun e _ => flag_panel e hp⟩

/-- Beside that, no frame joins those kept after drops, and of the ovens only claim-pending flags change. -/
structure JudgedSection (s t : State) : Prop where
  quiet : Quiet s t
  dropped : t.line.dropped = s.line.dropped
  length : t.sched.ovens.length = s.sched.ovens.length
  get : ∀ (k : Nat) (o : Oven), s.sched.ovens[k]? = some o →
    ∃ pending, t.sched.ovens[k]? = some { o with pending := pending }

theorem JudgedSection.of_eq {s t : State} (hl : t.line = s.line) (hp : t.panel = s.panel)
    (ho : t.sched.ovens = s.sched.ovens) : JudgedSection s t :=
  ⟨.of_eq hl hp, by rw [hl], by rw [ho], fun k o h => ⟨o.pending, by rw [ho, h]⟩⟩

theorem JudgedSection.refl (s : State) : JudgedSection s s := .of_eq rfl rfl rfl

theorem JudgedSection.trans {a b c : State} (h : JudgedSection a b) (g : JudgedSection b c) : JudgedSection a c where
  quiet := h.quiet.trans g.quiet
  dropped := g.dropped.trans h.dropped
  length := g.length.trans h.length
  get k o ho := by
    obtain ⟨p, hp⟩ := h.get k o ho
    obtain ⟨q, hq⟩ := g.get k _ hp
    exact ⟨q, hq⟩

/-! ### Offering and withdrawing -/

theorem settleClaim_judged (b : Bool) (s : State) : JudgedSection s (settleClaim b s) := by
  unfold settleClaim
  split
  · exact .refl s
  · refine ⟨⟨rfl, rfl, fun _ _ => rfl⟩, rfl, by simp, ?_⟩
    intro k o h
    simp only [mapSched_sched, mapTicket_sched, List.getElem?_map, h, Option.map_some]
    split
    · exact ⟨false, rfl⟩
    · exact ⟨o.pending, rfl⟩

theorem openNotOffered_judged (s : State) : JudgedSection s (openNotOffered s) := .of_eq rfl rfl rfl

theorem goNotOffered_judged (s : State) : JudgedSection s (goNotOffered s) := .of_eq rfl rfl rfl

/-- The frames of class 0 to 2 whose drop keeps nothing at a section. -/
def pushOrOven : Frame → Bool
  | .claim _ _ | .opening _ _ | .go _ _ | .oven _ _ _ => true
  | _ => false

theorem countTxDrop_judged (s : State) : JudgedSection s (countTxDrop s) :=
  ⟨⟨by simp, by simp [countTxDrop], fun e h => by unfold countTxDrop; rw [raise_other _ _ _ h.symm]; rfl⟩,
    by simp [countTxDrop], by simp, fun k o h => ⟨o.pending, by simp [h]⟩⟩

theorem setQueue_q3 (u : LineUnit) (c : Nat) (q : List Queued) (h : c < 3) : (u.setQueue c q).q3 = u.q3 := by
  match c, h with
  | 0, _ => rfl
  | 1, _ => rfl
  | 2, _ => rfl

/-- An offered CLAIM, OPEN, GO or OVEN joins its queue, or at a full one is dropped and not kept. -/
theorem offer_judged (f : Frame) (s : State) (h : pushOrOven f = true) : JudgedSection s (offer f s) := by
  have hc : f.cls < 3 := by cases f <;> simp_all [pushOrOven, Frame.cls]
  have hd : JudgedSection (countTxDrop s) (onDrop f (countTxDrop s)) := by
    cases f <;> simp_all only [pushOrOven, onDrop] <;> first
      | exact openNotOffered_judged _
      | exact goNotOffered_judged _
      | exact .refl _
      | (split
         · exact settleClaim_judged _ _
         · exact .refl _)
      | contradiction
  unfold offer
  split
  · split
    · omega
    · split
      · exact ⟨⟨by simp, setQueue_q3 _ _ _ hc, fun _ _ => rfl⟩, by simp, rfl, fun k o h => ⟨o.pending, h⟩⟩
      · exact (countTxDrop_judged s).trans hd
  · exact .refl s

/-- What a drop leaves of the frames kept for another offer: all that `onDrop` can do to them (R86, R130, R202). -/
theorem onDrop_kept (f : Frame) (s x : State) (h1 : x.line.dropped = s.line.dropped) (h2 : x.ticket = s.ticket)
    (h3 : x.resetRecord = s.resetRecord) : keptAtDrop f s (onDrop f x) := by
  unfold keptAtDrop
  dsimp only
  refine ⟨?_, ?_, ?_, ?_⟩
  · intro hr hn hf
    cases f <;> simp_all [Frame.names, onDrop, keepDropped]
  · rintro tk o why hr rfl
    have hs : abandonStands tk o x = true ↔ ∃ r, s.ticket.record = some r ∧ r.ticket = tk ∧ r.oven = o ∧
        r.phase.beforeGone = true ∧ r.abandonOffered = true := by
      unfold abandonStands; rw [h2]
      cases s.ticket.record <;> simp [and_assoc]
    simp only [onDrop, h3, hr, if_true]
    rw [← hs]
    constructor
    · intro h; rw [if_pos h]; simp [keepDropped, h1]
    · intro h; rw [if_neg h]; exact h1
  · rintro rfl
    constructor
    · intro h; simp [onDrop, keepDropped, h1, h]
    · intro h; simp [onDrop, keepDropped, h1, h]
  · intro h
    rcases h with ⟨tk, o, rfl | rfl | rfl⟩ | rfl | rfl | ⟨o, rfl | rfl⟩ | ⟨o, a, b, rfl⟩ | ⟨b, rfl⟩ <;> simp only [onDrop]
    · split
      · rw [(settleClaim_judged _ _).dropped, h1]
      · exact h1
    · rw [(openNotOffered_judged _).dropped, h1]
    · rw [(goNotOffered_judged _).dropped, h1]
    all_goals exact h1

theorem withdrawFrames_judged (p : Frame → Bool) (s : State) : JudgedSection s (withdrawFrames p s) :=
  ⟨⟨rfl, rfl, fun _ _ => rfl⟩, rfl, rfl, fun _ o h => ⟨o.pending, h⟩⟩

theorem withdrawFrame_judged (f : Frame) (removed : State → State) (h : ∀ s, JudgedSection s (removed s)) (s : State) :
    JudgedSection s (withdrawFrame f removed s) := by
  unfold withdrawFrame
  split
  · dsimp only
    split
    · exact withdrawFrames_judged _ s
    · exact (withdrawFrames_judged _ s).trans (h _)
  · exact .refl s

/-! ### The section's judgements -/

theorem refreshDampers_judged (s : State) : JudgedSection s (refreshDampers s) := .of_eq rfl rfl rfl

theorem refreshOwnRoster_judged (s : State) : JudgedSection s (refreshOwnRoster s) :=
  .of_eq (by simp) (by simp) (by simp)

theorem offerOvenFrames_judged (before after : List Oven) (s : State) :
    JudgedSection s (offerOvenFrames before after s) := by
  induction before generalizing after s with
  | nil => exact .refl s
  | cons b before ih =>
    cases after with
    | nil => exact .refl s
    | cons a after =>
      unfold offerOvenFrames
      refine JudgedSection.trans ?_ (ih after _)
      split
      · exact .refl s
      · exact offer_judged _ s rfl

theorem judgePush_judged (s : State) : JudgedSection s (judgePush s) := by
  have e : ∀ (f : Context → Context) (x : State), JudgedSection x (mapContext f x) := fun _ _ => .of_eq rfl rfl rfl
  unfold judgePush
  split
  · dsimp only
    generalize hx : (if (s.readbacks _).doorsOff = true then
      mapContext (fun c => { c with doorOff := .stopped }) s else s) = x
    have h : JudgedSection s x := by
      rw [← hx]; split
      · exact e _ _
      · exact .refl s
    refine h.trans ?_
    split
    · exact (e _ _).trans (offer_judged _ _ rfl)
    · split
      · exact (e _ _).trans (offer_judged _ _ rfl)
      · split
        · exact withdrawFrame_judged _ _ goNotOffered_judged _
        · exact .refl x
  · exact .refl s

theorem judgeClaim_judged (s : State) : JudgedSection s (judgeClaim s) := by
  unfold judgeClaim
  split
  · split
    · exact .refl s
    · dsimp only
      refine JudgedSection.trans ?_ (offer_judged _ _ rfl)
      refine ⟨⟨rfl, rfl, fun _ _ => rfl⟩, rfl, by simp, ?_⟩
      intro k o h
      simp only [mapSched_sched, mapTicket_sched, List.getElem?_modify, h]
      split
      · exact ⟨true, rfl⟩
      · exact ⟨o.pending, rfl⟩
  · exact .refl s

/-! ### The car's judgements -/

/-- The ticket and schedule units stand as well. -/
structure JudgedCar (s t : State) : Prop where
  quiet : Quiet s t
  ticket : t.ticket = s.ticket
  sched : t.sched = s.sched

theorem JudgedCar.of_eq {s t : State} (hl : t.line = s.line) (hp : t.panel = s.panel) (ht : t.ticket = s.ticket)
    (hs : t.sched = s.sched) : JudgedCar s t := ⟨.of_eq hl hp, ht, hs⟩

theorem JudgedCar.refl (s : State) : JudgedCar s s := .of_eq rfl rfl rfl rfl

theorem JudgedCar.trans {a b c : State} (h : JudgedCar a b) (g : JudgedCar b c) : JudgedCar a c :=
  ⟨h.quiet.trans g.quiet, g.ticket.trans h.ticket, g.sched.trans h.sched⟩

theorem offer_spotted_judged (t : Ticket) (o : Nat) (k : CarKind) (s : State) :
    JudgedCar s (offer (.spotted t o k) s) := by
  have hd : JudgedCar (countTxDrop s) (onDrop (.spotted t o k) (countTxDrop s)) :=
    ⟨⟨rfl, rfl, fun _ _ => rfl⟩, rfl, rfl⟩
  unfold offer
  split
  · split
    · exact absurd (by assumption) (by simp [Frame.cls])
    · split
      · exact ⟨⟨by simp, setQueue_q3 _ _ _ (by simp [Frame.cls]), fun _ _ => rfl⟩, rfl, rfl⟩
      · exact JudgedCar.trans ⟨(countTxDrop_judged s).quiet, by simp, by simp⟩ hd
  · exact .refl s

theorem setQuench_judged (p : QuenchPhase) (s : State) : JudgedCar s (setQuench p s) := by
  unfold setQuench; dsimp only
  split <;> exact .of_eq (by simp) (by simp) (by simp) (by simp)

theorem arriveSpot_judged (m : Move) (s : State) : JudgedCar s (arriveSpot m s) := by
  unfold arriveSpot
  split
  · split
    · exact .of_eq rfl rfl rfl rfl
    · unfold offerOpt State.servedFrame
      cases State.servedRecord s with
      | none => exact .of_eq rfl rfl rfl rfl
      | some r =>
        exact JudgedCar.trans (b := s.mapCar fun u => { u with state := .spotted }) (.of_eq rfl rfl rfl rfl)
          (offer_spotted_judged _ _ _ _)
  · exact .of_eq rfl rfl rfl rfl

theorem arriveTower_judged (s : State) : JudgedCar s (arriveTower s) := by
  unfold arriveTower
  dsimp only
  split
  · refine JudgedCar.trans ?_ (setQuench_judged _ _)
    exact .of_eq rfl rfl rfl rfl
  · exact .of_eq rfl rfl rfl rfl

theorem arriveWharf_judged (s : State) : JudgedCar s (arriveWharf s) := by
  unfold arriveWharf
  split
  · refine JudgedCar.trans ?_ (setQuench_judged _ _)
    exact .of_eq rfl rfl rfl rfl
  · exact .of_eq rfl rfl rfl rfl

theorem arrive_judged (s : State) : JudgedCar s (arrive s) := by
  unfold arrive
  split
  · exact .refl s
  · dsimp only
    refine JudgedCar.trans (b := dropHeadMove s) (.of_eq rfl rfl rfl rfl) ?_
    split
    · exact arriveSpot_judged _ _
    · exact .of_eq rfl rfl rfl rfl
    · exact arriveTower_judged _
    · exact arriveWharf_judged _
    · exact .of_eq rfl rfl rfl rfl

theorem startMove_judged (s : State) : JudgedCar s (startMove s) := by
  unfold startMove; split
  · exact arrive_judged s
  · exact .of_eq rfl rfl rfl rfl

theorem judgeCar_judged (ramJudged : Bool) (n : Nat) (s : State) : JudgedCar s (judgeCar ramJudged n s) := by
  induction n generalizing s with
  | zero => exact .refl s
  | succ n ih =>
    unfold judgeCar
    (repeat' split) <;> first
      | exact (startMove_judged s).trans (ih _)
      | exact .of_eq rfl rfl rfl rfl

/-! ### The store requests -/

/-- A write that starts sets the saved line minute of its oven, outside a start join, and changes nothing else of any
oven (R62, R190). -/
theorem startNextWrite_ovens (s : State) :
    (startNextWrite s).sched.ovens.length = s.sched.ovens.length ∧
    ∀ k o, s.sched.ovens[k]? = some o → ∃ minute,
      (startNextWrite s).sched.ovens[k]? = some { o with savedMinute := minute } ∧
      (minute ≠ o.savedMinute → minute = s.peer.lineMinute ∧ s.peer.startJoin = false ∧ s.store.write = none ∧
        (startNextWrite s).store.write.map (·.page) = some (6 + k)) := by
  have keep : ∀ t : State, t.sched.ovens = s.sched.ovens → t.sched.ovens.length = s.sched.ovens.length ∧
      ∀ k o, s.sched.ovens[k]? = some o → ∃ minute, t.sched.ovens[k]? = some { o with savedMinute := minute } ∧
        (minute ≠ o.savedMinute → minute = s.peer.lineMinute ∧ s.peer.startJoin = false ∧ s.store.write = none ∧
          t.store.write.map (·.page) = some (6 + k)) :=
    fun t h => ⟨by rw [h], fun k o ho => ⟨o.savedMinute, by rw [h, ho], fun n => absurd rfl n⟩⟩
  have hc : ∀ j oj, s.sched.ovens[j]? = some oj → capture (.ovenOf j) s =
      (ovenPage j (if s.peer.startJoin then oj else { oj with savedMinute := s.peer.lineMinute }),
        s.mapSched fun u => { u with
          ovens := u.ovens.set j (if s.peer.startJoin then oj else { oj with savedMinute := s.peer.lineMinute }) }) := by
    intro j oj hj; unfold capture; dsimp only; rw [hj]
  have hn : ∀ j, s.sched.ovens[j]? = none → capture (.ovenOf j) s = ([], s) := by
    intro j hj; unfold capture; dsimp only; rw [hj]
  unfold startNextWrite
  split
  · rename_i r rest hw _
    cases r with
    | station => exact keep _ rfl
    | ovenOf j =>
      cases hj : s.sched.ovens[j]? with
      | none => rw [hn j hj]; exact keep _ rfl
      | some oj =>
        rw [hc j oj hj]
        refine ⟨by simp, fun k o ho => ?_⟩
        by_cases e : j = k
        · subst e
          have eo : oj = o := by rw [hj] at ho; exact Option.some.inj ho
          subst eo
          have hl := (List.getElem?_eq_some_iff.1 hj).1
          refine ⟨if s.peer.startJoin then oj.savedMinute else s.peer.lineMinute, ?_, ?_⟩
          · simp only [mapStore_sched, mapSched_sched, List.getElem?_set_self hl]
            split <;> rfl
          · cases hs : s.peer.startJoin
            · intro _; exact ⟨rfl, rfl, hw, rfl⟩
            · intro n; exact absurd rfl n
        · exact ⟨o.savedMinute, by simp only [mapStore_sched, mapSched_sched, List.getElem?_set_ne e, ho],
            fun n => absurd rfl n⟩
  · exact keep _ rfl

/-- The same of the requests that end an event (R188). -/
theorem flushStore_ovens (s : State) :
    (flushStore s).sched.ovens.length = s.sched.ovens.length ∧
    ∀ k o, s.sched.ovens[k]? = some o → ∃ minute,
      (flushStore s).sched.ovens[k]? = some { o with savedMinute := minute } ∧
      (minute ≠ o.savedMinute → minute = s.peer.lineMinute ∧ s.peer.startJoin = false ∧ s.store.write = none ∧
        (flushStore s).store.write.map (·.page) = some (6 + k)) := by
  unfold flushStore
  exact startNextWrite_ovens _

/-! ### The queue of class 0 -/

/-- Where every frame of class 0 is of that class, the queue of class 0 stands. -/
def ClassZeroStands (s t : State) : Prop := (∀ q ∈ s.line.q0, q.frame.cls = 0) → t.line.q0 = s.line.q0

theorem ClassZeroStands.of_eq {s t : State} (h : t.line.q0 = s.line.q0) : ClassZeroStands s t := fun _ => h

theorem ClassZeroStands.trans {a b c : State} (h : ClassZeroStands a b) (g : ClassZeroStands b c) :
    ClassZeroStands a c := fun n => (g (by rw [h n]; exact n)).trans (h n)

theorem setQueue_q0 (u : LineUnit) (c : Nat) (q : List Queued) (h : c ≠ 0) : (u.setQueue c q).q0 = u.q0 := by
  match c, h with
  | 1, _ => rfl
  | 2, _ => rfl
  | _ + 3, _ => rfl

theorem onDrop_q0 (f : Frame) (s : State) : (onDrop f s).line.q0 = s.line.q0 := by
  unfold onDrop settleClaim keepDropped; (repeat' split) <;> rfl

/-- An offer of another class leaves class 0 alone. -/
theorem offer_classZero (f : Frame) (s : State) (h : f.cls ≠ 0) : (offer f s).line.q0 = s.line.q0 := by
  unfold offer
  (repeat' split) <;> first | rfl | exact setQueue_q0 _ _ _ h | (rw [onDrop_q0]; simp [countTxDrop])

/-- A withdrawal of one frame of another class leaves class 0 alone. -/
theorem withdrawFrame_classZero (f : Frame) (removed : State → State)
    (hr : ∀ s, (removed s).line.q0 = s.line.q0) (hf : f.cls ≠ 0) (s : State) :
    ClassZeroStands s (withdrawFrame f removed s) := by
  intro h
  have hn : ∀ q ∈ s.line.q0, (q.frame == f) = false := by
    intro q hq
    simp only [beq_eq_false_iff_ne, ne_eq]
    intro e; exact hf (e ▸ h q hq)
  have hw : (withdrawFrames (fun x => x == f) s).line.q0 = s.line.q0 := by
    show withdrawQueue (fun x => x == f) (s.line.inTransmission 0) s.line.q0 = s.line.q0
    have hl : ∀ l : List Queued, (∀ q ∈ l, (q.frame == f) = false) → (l.filter fun x => !(x.frame == f)) = l :=
      fun l hl => List.filter_eq_self.2 fun q hq => by simp [hl q hq]
    cases hs : s.line.q0 with
    | nil => rfl
    | cons q rest =>
      rw [hs] at hn
      simp only [withdrawQueue]
      split
      · rw [hl rest fun x hx => hn x (by simp [hx]), if_neg (by simp [hn q])]
      · exact hl _ hn
  unfold withdrawFrame
  dsimp only
  (repeat' split) <;> first | exact hw | (rw [hr]; exact hw) | rfl

theorem offerOvenFrames_q0 (before after : List Oven) (s : State) :
    (offerOvenFrames before after s).line.q0 = s.line.q0 := by
  induction before generalizing after s with
  | nil => rfl
  | cons b before ih =>
    cases after with
    | nil => rfl
    | cons a after =>
      unfold offerOvenFrames
      rw [ih]
      split
      · rfl
      · exact offer_classZero _ _ (by simp [Frame.cls])

theorem judgePush_classZero (s : State) : ClassZeroStands s (judgePush s) := by
  unfold judgePush
  split
  · rename_i r c _ _
    dsimp only
    generalize hx : (if (s.readbacks r).doorsOff = true then
      mapContext (fun c => { c with doorOff := .stopped }) s else s) = x
    have h : x.line = s.line := by rw [← hx]; split <;> rfl
    refine ClassZeroStands.trans (b := x) (.of_eq (by rw [h])) ?_
    split
    · exact .of_eq (offer_classZero _ _ (by simp [Frame.cls]))
    · split
      · exact .of_eq (offer_classZero _ _ (by simp [Frame.cls]))
      · split
        · exact withdrawFrame_classZero (.go r.ticket r.oven) goNotOffered (fun _ => rfl) (by simp [Frame.cls]) _
        · exact .of_eq rfl
  · exact .of_eq rfl

theorem judgeClaim_q0 (s : State) : (judgeClaim s).line.q0 = s.line.q0 := by
  unfold judgeClaim
  (repeat' split) <;> first | rfl | exact offer_classZero _ _ (by simp [Frame.cls])

theorem arrive_q0 (s : State) : (arrive s).line.q0 = s.line.q0 := by
  have hs : ∀ p x, (setQuench p x).line = x.line := by
    intro p x; unfold setQuench; dsimp only; split <;> simp
  have ho : ∀ (x y : State) mk, (∀ t o, (mk t o).cls ≠ 0) → (offerOpt (x.servedFrame mk) y).line.q0 = y.line.q0 := by
    intro x y mk h
    unfold offerOpt State.servedFrame
    cases State.servedRecord x with
    | none => rfl
    | some r => exact offer_classZero _ _ (h _ _)
  unfold arrive
  split
  · rfl
  · dsimp only
    split
    · unfold arriveSpot
      (repeat' split) <;> first | rfl | exact ho _ _ _ (fun _ _ => by simp [Frame.cls])
    · rfl
    · unfold arriveTower
      dsimp only
      split
      · rw [hs]; rfl
      · rfl
    · unfold arriveWharf
      split
      · rw [hs]; rfl
      · rfl
    · rfl

theorem judgeCar_q0 (ramJudged : Bool) (n : Nat) (s : State) : (judgeCar ramJudged n s).line.q0 = s.line.q0 := by
  induction n generalizing s with
  | zero => rfl
  | succ n ih =>
    have hm : (startMove s).line.q0 = s.line.q0 := by
      unfold startMove; split
      · exact arrive_q0 s
      · rfl
    unfold judgeCar
    (repeat' split) <;> first | rfl | (rw [ih]; exact hm)

end Sys2Proof.Machine
end

