-- ==== Sys2Proof/Laws/Memory.lean ====
section
/-! SUPPORT. The store array: reading after writing, and the canonical form kept by every operation over it. -/

namespace Sys2Proof.Machine

@[simp] theorem Memory.read_nil (a : Nat) : Memory.read [] a = 0 := rfl

/-- A read below every listed address is 0. -/
theorem Memory.read_below (m : Memory) (lo a : Nat) (h : Memory.wfFrom lo m = true) (ha : a < lo) :
    Memory.read m a = 0 := by
  induction m generalizing lo with
  | nil => rfl
  | cons x rest ih =>
    obtain ⟨k, b⟩ := x
    simp only [Memory.wfFrom, Bool.and_eq_true, decide_eq_true_eq] at h
    obtain ⟨⟨⟨h1, _⟩, _⟩, h4⟩ := h
    have hk : k ≠ a := by omega
    simp only [Memory.read, if_neg hk]
    exact ih (k + 1) h4 (by omega)

/-- A smaller bound serves as well. -/
theorem Memory.wfFrom_mono (m : Memory) (lo lo' : Nat) (h : Memory.wfFrom lo m = true) (hl : lo' ≤ lo) :
    Memory.wfFrom lo' m = true := by
  cases m with
  | nil => rfl
  | cons x rest =>
    obtain ⟨k, b⟩ := x
    simp only [Memory.wfFrom, Bool.and_eq_true, decide_eq_true_eq] at h ⊢
    obtain ⟨⟨⟨h1, h2⟩, h3⟩, h4⟩ := h
    exact ⟨⟨⟨by omega, h2⟩, h3⟩, h4⟩

/-- What a write leaves at every address of a canonical array. -/
theorem Memory.read_write (m : Memory) (lo a a' : Nat) (v : Byte) (h : Memory.wfFrom lo m = true) :
    Memory.read (Memory.write m a v) a' = if a = a' then v else Memory.read m a' := by
  induction m generalizing lo with
  | nil =>
    simp only [Memory.write]
    by_cases hv : v = 0
    · by_cases haa : a = a' <;> simp [hv, haa, Memory.read]
    · simp only [if_neg hv, Memory.read]
  | cons x rest ih =>
    obtain ⟨k, b⟩ := x
    have h0 := h
    simp only [Memory.wfFrom, Bool.and_eq_true, decide_eq_true_eq] at h
    obtain ⟨⟨⟨h1, h2⟩, h3⟩, h4⟩ := h
    simp only [Memory.write]
    by_cases hak : a < k
    · simp only [hak, if_true]
      by_cases hv : v = 0
      · simp only [hv, if_true]
        by_cases haa : a = a'
        · subst haa
          have hk : k ≠ a := by omega
          have := Memory.read_below rest (k + 1) a h4 (by omega)
          simp [Memory.read, hk, this]
        · simp [haa]
      · simp only [if_neg hv, Memory.read]
    · simp only [if_neg hak]
      by_cases hak2 : a = k
      · subst hak2
        simp only [if_true]
        by_cases hv : v = 0
        · simp only [hv, if_true]
          by_cases haa : a = a'
          · subst haa
            simp [Memory.read_below rest (a + 1) a h4 (by omega)]
          · simp [haa, Memory.read]
        · by_cases haa : a = a' <;> simp only [if_neg hv, haa, Memory.read, if_true, if_false]
      · simp only [if_neg hak2, Memory.read]
        by_cases hka : k = a'
        · subst hka
          simp [hak2]
        · simp only [if_neg hka]
          exact ih (k + 1) h4

/-- A write keeps the canonical form. -/
theorem Memory.wfFrom_write (m : Memory) (lo a : Nat) (v : Byte) (h : Memory.wfFrom lo m = true) (ha : a < 512)
    (hlo : lo ≤ a) : Memory.wfFrom lo (Memory.write m a v) = true := by
  induction m generalizing lo with
  | nil =>
    by_cases hv : v = 0
    · simp [Memory.write, hv, Memory.wfFrom]
    · have hv' : v ≠ 0#8 := hv
      simp only [Memory.write, if_neg hv]
      simp [Memory.wfFrom, ha, hlo, hv']
  | cons x rest ih =>
    obtain ⟨k, b⟩ := x
    have h0 := h
    simp only [Memory.wfFrom, Bool.and_eq_true, decide_eq_true_eq] at h
    obtain ⟨⟨⟨h1, h2⟩, h3⟩, h4⟩ := h
    simp only [Memory.write]
    by_cases hak : a < k
    · simp only [hak, if_true]
      by_cases hv : v = 0
      · simpa [hv] using h0
      · have h3' : b ≠ 0#8 := by simpa using h3
        have hk : a + 1 ≤ k := by omega
        have hv' : v ≠ 0#8 := hv
        simp only [if_neg hv]
        simp [Memory.wfFrom, hlo, ha, h2, h3', h4, hk, hv']
    · simp only [if_neg hak]
      by_cases hak2 : a = k
      · subst hak2
        simp only [if_true]
        by_cases hv : v = 0
        · simp only [hv, if_true]
          exact Memory.wfFrom_mono rest (a + 1) lo h4 (by omega)
        · have hv' : v ≠ 0#8 := hv
          simp only [if_neg hv]
          simp [Memory.wfFrom, h1, h2, h4, hv']
      · simp only [if_neg hak2, Memory.wfFrom, Bool.and_eq_true, decide_eq_true_eq]
        exact ⟨⟨⟨h1, h2⟩, h3⟩, ih (k + 1) h4 (by omega)⟩

/-- A canonical array lists no address above 511. -/
theorem Memory.read_above (m : Memory) (lo a : Nat) (h : Memory.wfFrom lo m = true) (ha : 512 ≤ a) :
    Memory.read m a = 0 := by
  induction m generalizing lo with
  | nil => rfl
  | cons x rest ih =>
    obtain ⟨k, b⟩ := x
    simp only [Memory.wfFrom, Bool.and_eq_true, decide_eq_true_eq] at h
    obtain ⟨⟨⟨h1, h2⟩, _⟩, h4⟩ := h
    have hk : k ≠ a := by omega
    simp only [Memory.read, if_neg hk]
    exact ih (k + 1) h4

/-- Writing bytes keeps the canonical form. -/
theorem Memory.wf_writeBytes (bytes : List Byte) : ∀ (m : Memory) (a : Nat), Memory.wf m = true →
    Memory.wf (Memory.writeBytes m a bytes) = true := by
  induction bytes with
  | nil => intro m a h; exact h
  | cons v rest ih =>
    intro m a h
    simp only [Memory.writeBytes]
    apply ih
    split
    · exact Memory.wfFrom_write m 0 a v h (by assumption) (by omega)
    · exact h

/-- Writing a page keeps the canonical form. -/
theorem Memory.wf_writePage (m : Memory) (page : Nat) (bytes : List Byte) (h : Memory.wf m = true) :
    Memory.wf (Memory.writePage m page bytes) = true :=
  Memory.wf_writeBytes _ m _ h

/-- What writing bytes leaves at every address: the bytes in their places below 512, all else as it was. -/
theorem Memory.read_writeBytes (bytes : List Byte) : ∀ (m : Memory) (a a' : Nat), Memory.wf m = true →
    Memory.read (Memory.writeBytes m a bytes) a' =
      if a ≤ a' ∧ a' < a + bytes.length ∧ a' < 512 then bytes.getD (a' - a) 0 else Memory.read m a' := by
  induction bytes with
  | nil =>
    intro m a a' _
    have h : ¬(a ≤ a' ∧ a' < a + ([] : List Byte).length ∧ a' < 512) := by simp; omega
    simp only [Memory.writeBytes, if_neg h]
  | cons v rest ih =>
    intro m a a' h
    have hw : Memory.wf (if a < 512 then Memory.write m a v else m) = true := by
      split
      · exact Memory.wfFrom_write m 0 a v h (by assumption) (by omega)
      · exact h
    simp only [Memory.writeBytes]
    rw [ih _ _ _ hw]
    simp only [List.length_cons]
    by_cases h1 : a + 1 ≤ a' ∧ a' < a + 1 + rest.length ∧ a' < 512
    · have h2 : a ≤ a' ∧ a' < a + (rest.length + 1) ∧ a' < 512 := by omega
      have h3 : a' - a = (a' - (a + 1)) + 1 := by omega
      rw [if_pos h1, if_pos h2, h3]
      simp
    · rw [if_neg h1]
      by_cases haa : a = a'
      · subst haa
        by_cases h5 : a < 512
        · have h2 : a ≤ a ∧ a < a + (rest.length + 1) ∧ a < 512 := by omega
          rw [if_pos h2, if_pos h5, Memory.read_write m 0 a a v h]
          simp
        · have h2 : ¬(a ≤ a ∧ a < a + (rest.length + 1) ∧ a < 512) := by omega
          rw [if_neg h2, if_neg h5]
      · have h2 : ¬(a ≤ a' ∧ a' < a + (rest.length + 1) ∧ a' < 512) := by omega
        rw [if_neg h2]
        split
        · rw [Memory.read_write m 0 a a' v h, if_neg haa]
        · rfl

/-- Whatever a reset leaves of a cut write, the canonical form stands. -/
theorem Memory.wf_cutPage (n : Nat) (m : Memory) (w : PageWrite) (h : Memory.wf m = true) :
    Memory.wf (cutPage n m w) = true := by
  unfold cutPage
  split <;> first | exact h | exact Memory.wf_writePage _ _ _ h

/-- The array after a reset is canonical. -/
theorem wf_arrayAfterReset (s : State) (h : Memory.wf s.store.array = true) :
    Memory.wf (arrayAfterReset s) = true := by
  unfold arrayAfterReset
  split
  · exact h
  · exact Memory.wf_cutPage _ _ _ h

/-- The array of a part as delivered is canonical. -/
theorem wf_reset : Memory.wf State.reset.store.array = true := rfl

end Sys2Proof.Machine
end

