-- ==== Sys2Proof/Tests/Slice0.lean ====
section
/-! SUPPORT. The model's own tests: ill-formed commands that WellFormed refuses, worked examples of the spec, and for
every obligation with hypotheses a concrete state and operands that meet them. Each is about one step or one operation on
a small state. -/

set_option Elab.async false

namespace Sys2Proof.Tests

open Sys2Proof.Machine

/-! ### Helpers -/

/-- A configuration with the values the tests use. -/
def cfg : Cfg :=
  { Cfg.blank with
    standingPeriod := 5, probation := 2, withdrawThreshold := 8, withdrawTime := 10, noiseReject := 5, slotCount := 3
    slotOvens := [36, 37, 38], step := 5, shift := 2, defaultTarget := 1200, earlyMinutes := 60, earlySetpoint := 100
    normalSetpoint := 60, deadband := 10, leakRelief := 30, settleTime := 5, damperFloor := 8, damperCeiling := 48
    scanPeriod := 500, channelOffsets := [0, -3, 7], mainHysteresis := 20, mainStableTime := 30, mainLowLimit := -300
    aspirationLimit := 2, aspirationTime := 300, leakWindow := 30, leakThreshold := 5, cleanCount := 2
    reseatLimit := 1, inflateLimit := 20, deflateTime := 10, assentLimit := 10, spotLimit := 600, doorOffLimit := 120
    pacingTime := 60, claimBackoff := 30, marker1 := 4, pitch := 2, towerMarker := 240, wharfMarker := 250
    parkMarker := 2, markerLimit := 20, actionLimit := 120, ramLimit := 120, quenchTime := 90, drainTime := 60
    hotTravelLimit := 90 }

/-- The bytes of a block that both roles accept, but for its check byte. -/
def block95 : List Byte :=
  [5, 2, 16, 10, 5, 1, 0, 0, 3, 36, 37, 38, 0, 0, 0, 0, 0, 5, 2, 4, 176, 60, 0, 100, 0, 60, 10, 30, 5, 8, 48, 1, 244]
    ++ [0, 0, 0, 0, 0, 0, 0, 0, 0, 20, 30, 254, 212, 2, 1, 44, 30, 5, 2, 1, 20, 10, 0, 10, 2, 88, 0, 120, 0, 60, 30]
    ++ [4, 2, 240, 250, 2, 20, 0, 120, 0, 120, 90, 60, 0, 90] ++ List.replicate 17 0

/-- The store array with that block. -/
def array : Memory := Memory.writeBytes [] 0 (withCheck block95)

/-- An own oven. -/
def oven (number : Nat) (st : OvenState) (remaining gross : Nat) : Oven :=
  { number := number, state := st, held := false, suspect := false, pending := false, target := 1200
    remaining := remaining, gross := gross, savedMinute := 0, restored := true }

/-- A door with its timers stopped. -/
def door (st : DoorState) : Door :=
  { state := st, leakCount := 0, clean := 0, attempts := 0, window := none, inflate := none, deflate := none
    latch := ⟨true, none⟩, leak := ⟨false, none⟩ }

/-- A peer in standing. -/
def peer (role : Role) (kind : Option CarKind) : Peer :=
  { Peer.absent with standing := .inStanding, count := 2, role := some role, kind := kind, period := 5,
                     silence := some 10000 }

/-- Stations 1 section, 3 pusher, 5 guide, 7 quench car in standing, station 8 in probation. -/
def peers : List Peer :=
  [peer .ovens none, .absent, peer .car (some .pusher), .absent, peer .car (some .guide), .absent,
   peer .car (some .quench), { peer .ovens none with standing := .probation, count := 1 }]
    ++ List.replicate 23 Peer.absent

/-- An ACTIVE section, station 9: oven 36 RIPE, 37 EMPTY, 38 COKING. -/
def sec : State :=
  { State.reset with
    resetRecord := { State.reset.resetRecord with role := .ovens, station := 9 }
    cfg := cfg
    line := { LineUnit.reset with state := .active }
    peer := { PeerUnit.reset with table := peers, standingTimer := some 5000 }
    sched := { SchedUnit.reset with ovens := [oven 36 .ripe 0 1200, oven 37 .empty 0 0, oven 38 .coking 1 1199] }
    door := List.replicate 3 ⟨door .off, door .off⟩
    press := { PressureUnit.reset with
      scanTimer := some 500, converting := some 0, channels := List.replicate 4 Channel.reset
      dampers := List.replicate 3 Damper.reset, boundary := some 50 } }

/-- An ACTIVE car station, station 3, of a kind, IDLE at marker 2. -/
def car (kind : CarKind) : State :=
  { State.reset with
    resetRecord := { State.reset.resetRecord with role := .car, station := 3 }
    cfg := { cfg with carKind := kind }
    line := { LineUnit.reset with state := .active }
    peer := { PeerUnit.reset with table := peers.set 2 Peer.absent, standingTimer := some 5000 }
    car := { CarUnit.reset with position := some 2, state := .idle } }

/-- The same in another line state. -/
def inState (l : LineState) (s : State) : State := { s with line := { s.line with state := l } }

/-- A record of ticket 1 and oven 36, claimed by station 9. -/
def record (p : Phase) : Record :=
  { ticket := 1, oven := 36, claimant := some 9, phase := p, assents := .none, reports := .none,
    abandonOffered := false }

/-- The section as the claimant of that record. -/
def claimant (p : Phase) : State :=
  { sec with ticket := { TicketUnit.reset with
    record := some (record p)
    context := some { Context.idle with assent := .running 5000, spot := .running 5000, doorOff := .running 5000 } } }

/-- The car with that record, serving its ticket. -/
def serving (kind : CarKind) (p : Phase) : State :=
  { car kind with
    ticket := { TicketUnit.reset with record := some (record p) }
    car := { CarUnit.reset with position := some 74, state := .spotted, served := some 1, actionServes := true } }

/-- A frame that stands next in the own receive stream. -/
def returning (f : Frame) (s : State) : State := { s with line := { s.line with ownReturn := [f] } }

/-- A door pair at slot 1 of the section. -/
def doorPair (p c : Door) : State := { sec with door := [⟨p, c⟩, ⟨door .off, door .off⟩, ⟨door .off, door .off⟩] }

/-- A section STANDING, period 5, naming oven 1. -/
def secStanding (minute : Nat) (last : Ticket) : Standing :=
  ⟨⟨minute, last, 0, 0, none, true, 7, 5⟩, .ofSection [⟨1, .coking, 30⟩]⟩

/-- A guide car's STANDING. -/
def guideStanding : Standing := ⟨⟨0, 0, 0, 0, none, false, 0, 5⟩, .ofCar .guide (some 2) .idle none none⟩

/-- An attempt on a queued frame of class 2. -/
def attempting (q : Queued) : State :=
  { sec with line := { LineUnit.reset with state := .active, q2 := [q], attempt := some ⟨q.frame, false⟩ } }

/-- The next state of an outcome. -/
def after : Host.Outcome State Fault Refusal → Option State
  | .next t => some t
  | _ => none

/-! ### Ill-formed commands -/

theorem test_wf_refuses :
    [Instr.startSequence true 32, .stopFrame 0 .panel, .claimFrame 32 1 36, .claimFrame 1 1 0, .goFrame 1 1 121,
     .ovenFrame 1 36 .ripe 1024, .standingFrame 1 ⟨⟨16777216, 0, 0, 0, none, false, 0, 5⟩, .ofSection []⟩,
     .silenceTimerExpiry 32, .fieldInputChange (.latch 0 .pusherSide) true, .rejectTimerExpiry (.leak 9 .cokeSide),
     .sealSwitchChange 9 .pusherSide true, .inflateLimitExpiry 0 .pusherSide, .leakWindowExpiry 9 .cokeSide,
     .deflateTimerExpiry 0 .cokeSide, .settleTimerExpiry 9, .aspirationExpiry 121, .readOven 256, .readDoors 256,
     .readRoster 1 256, .configRead 256 1, .hold 256, .release 256, .setTarget 1 65536, .setOven 1 256 0,
     .outOfService 256, .returnToService 256, .confirmClock 256, .chargeBegin 256, .chargeEnd 256, .reseat 1 256,
     .resolve 256, .configWrite 0 [], .unknownRequest 16 1].all (fun c => !c.wf) = true := by decide +kernel

theorem test_wf_admits :
    [Instr.startSequence true 31, .claimFrame 31 65535 120, .ovenFrame 1 120 .skip 1023,
     .standingFrame 1 (secStanding 16777215 5), .configWrite 80 (List.replicate 16 0), .unknownRequest 16 2].all Instr.wf
      = true := by decide +kernel

/-! ### Worked examples -/

/-- The passes of step 5 and shift 2, and a rank in pass 4 (R78, R79). -/
theorem test_passes : (List.range 5).map (residue 5 2) = [1, 3, 5, 2, 4] ∧ rankOf cfg 120 = 2 * 128 + 120 ∧
    rankOf cfg 4 = 4 * 128 + 4 := by decide +kernel

/-- The readings of R168. -/
theorem test_readings : rawReading 600 (-3) = 85 ∧ rawReading 1020 7 = 511 ∧ rawReading 1 (-7) = -512 := by decide +kernel

/-- The LOW flag of R170 at -305, -290 and -280 Pa. -/
theorem test_low :
    let m : MainRecord := ⟨none, none, false, false⟩
    (m.judgeLow cfg (-305)).low = true ∧ ((m.judgeLow cfg (-305)).judgeLow cfg (-290)).low = true ∧
    ((m.judgeLow cfg (-305)).judgeLow cfg (-280)).low = false := by decide +kernel

/-- Spots of R122. -/
theorem test_spots : spotMarker cfg 61 = 124 ∧ spotMarker cfg 66 = 134 := by decide +kernel

/-- A slot map with oven 40 in slots 2 and 5 fails at offset 13 (R6). -/
theorem test_double_oven : slotOvenOk (Memory.writeBytes [] 8 [5, 36, 40, 41, 42, 40]) 5 = false ∧
    slotOvenOk (Memory.writeBytes [] 8 [5, 36, 40, 41, 42, 40]) 2 = true := by decide +kernel

/-- The CLAIM of the worked example of section 2.3: its header, its payload, three stuff bits up to the end of the
payload, and what its bits are received as (R16 to R18, R20). -/
theorem test_frame_bits :
    let f : Frame := .claim 1042 37
    headerBits 9 f =
      [false, true, false, true, false, false, true, false, true, false, false, false, false, false, false, true, true] ∧
    Frame.payload f = [0x04, 0x12, 0x25] ∧ (stuff (false :: checkedBits 9 f)).length = 42 + 3 ∧
    receiveBits (frameBits 9 f) = .frame 9 f := by decide +kernel

/-- One bit taken into the register of all ones (R18, by hand), and the check of the ASCII digits 1 to 9, which is 29B1 for
this polynomial, start and order (the published check value of this CRC, from outside the spec). -/
theorem test_check_value : crc16 [true] = 0xFFFE#16 ∧ crc16 [false] = 0xEFDF#16 ∧
    crc16 (byteBits [0x31, 0x32, 0x33, 0x34, 0x35, 0x36, 0x37, 0x38, 0x39]) = 0x29B1#16 := by decide +kernel

/-- A page made and read back (R186). -/
theorem test_page : readOvenPage 0 36 (ovenPage 0 (oven 36 .ripe 0 1200)) = some (oven 36 .ripe 0 1200) := by
  decide +kernel

/-- The lengths of READ_ROSTER and READ_PEERS (R197). -/
theorem test_read_lengths : (rosterData 1 99 sec).length = 495 ∧ (peersData sec).length = 496 := by decide +kernel

/-- The claim of a RIPE own candidate (R82). -/
theorem test_claim :
    let s := { sec with
      press := { sec.press with main := ⟨some 0, none, true, false⟩ }
      sched := { sec.sched with roster := sec.sched.roster.set 35 ⟨.current, 9, .ripe, 0⟩ } }
    (judgeClaim s).ticket.claim = some ⟨1, 36⟩ ∧ (judgeClaim s).line.q1.map (·.frame) = [.claim 1 36] := by decide +kernel

/-- A step on a waiting command. -/
theorem test_step : (after (step { sec with pending := [.hold 36] })).map (fun t => (t.pending, t.sched.ovens.map (·.held)))
    = some ([], [true, false, false]) := by decide +kernel

/-- A RIPE oven record and the station record in the store: what a start restores, and from bad pages (R192, R193). -/
def stored : Memory :=
  Memory.writeBytes (Memory.writeBytes array 96 (ovenPage 0 (oven 36 .charging 1200 0))) 224 (stationPage .ovens 500 7 300)

/-- The array of a quench car, its station page bad. -/
def quenchArray : Memory := Memory.writeBytes [] 0 (withCheck (block95.set 5 3))

/-- A record in the store, as a start restores it (R192, R193). -/
theorem test_restore :
    let started := after
      (exec (.startSequence false 31) { State.reset with store := { State.reset.store with array := stored } })
    started.map (fun t => (t.peer.lineMinute, t.ticket.lastDone, t.sched.cursor)) = some (500, 7, 300) ∧
    started.map (fun t => t.sched.ovens.map fun o => (o.state, o.suspect)) =
      some [(.coking, true), (.unknown, false), (.unknown, false)] := by
  decide +kernel

/-- One bit time at a time: the twelfth recessive bit on a waiting frame, a lost arbitration, a transmit error and a
frame of another station (R15, R21, R26, R30). -/
theorem test_line_bits :
    let waiting : State := { sec with
      line := { sec.line with q1 := [⟨.claim 1 36, 0, false⟩], listener := ⟨11, none⟩ } }
    let sending (bits : List Bool) : State := { sec with
      line := { sec.line with
        q1 := [⟨.claim 1 36, 0, false⟩], attempt := some ⟨.claim 1 36, false⟩, listener := ⟨0, some bits⟩ } }
    let idle : State := { sec with line := { sec.line with listener := ⟨12, none⟩ } }
    let attempts (o : Host.Outcome State Fault Refusal) := (after o).map fun t => (t.line.attempt, t.line.counters.txRetry)
    attempts (waiting.readBit true) = some (some ⟨.claim 1 36, false⟩, 0) ∧
    attempts (waiting.readBit false) = some (none, 0) ∧
    attempts ((sending [false, false]).readBit false) = some (none, 0) ∧
    attempts ((sending [false]).readBit true) = some (none, 1) ∧ (sending [false, false]).ltx = true ∧ sec.ltx = true ∧
    (after (State.readBits (frameBits 1 (.claim 1 120)) idle)).map (·.line.counters.rxGood) = some 1 := by
  decide +kernel

/-- An own attempt cut off in its check field, where the line goes recessive: the station counts no RX_BAD for it, and a
peer that reads the same bits does (R26). -/
theorem test_cut_off_attempt :
    let sent := frameBits 9 (.claim 1 36)
    let start (a : Option Attempt) : State := { sec with
      line := { sec.line with q1 := [⟨.claim 1 36, 0, false⟩], attempt := a, listener := ⟨12, none⟩ } }
    let seen := sent.take 40 ++ List.replicate 12 true
    let counts (s : State) := (after (State.readBits seen s)).map fun t => (t.line.counters.rxBad, t.line.counters.txRetry)
    counts (start (some ⟨.claim 1 36, false⟩)) = some (0, 1) ∧ counts (inState .joining (start none)) = some (1, 0) := by
  decide +kernel

/-- A RESTART clocked in, and PCSN inactive after it: the station is in reset at once (R195, R199). -/
theorem test_restart_by_its_bits :
    let ends := fun (t : State) => t.deselectPanel
    (after (andThen (State.clockIn (byteBits [31, 0]) sec.selectPanel) ends)).map
      (fun t => (t.line.state, t.resetRecord.cause)) = some (.inReset, .panel) ∧
    (after (andThen (State.clockIn (byteBits [31]) sec.selectPanel) ends)).map (·.line.state) = some .active := by
  decide +kernel

/-! ### Witnesses -/

theorem witness_StepRunsTheFrontCommand : { sec with pending := [.hold 36, .restart] }.pending = .hold 36 :: [.restart] := rfl

theorem witness_IdleStepIsOneMillisecond : sec.pending = [] := rfl

theorem witness_IdentityAndArrayAreKept :
    (after (exec (.hold 36) sec)).isSome = true ∧ (Instr.hold 36).starts = false ∧ Instr.hold 36 ≠ .storeReadback true ∧
    sec.peerAt sec.own = Peer.absent := by
  decide +kernel

theorem witness_FlagsMaskAndCountersAreKept :
    (after (exec (.hold 36) sec)).isSome = true ∧ (Instr.hold 36).starts = false ∧ sec.flag .reset = true ∧
    sec.line.counters = .zero ∧ sec.peer.lineMinute = 0 := by decide +kernel

theorem witness_FlagsMaskAndCountersAreKept_2 : sec.countsOk := by unfold State.countsOk; decide +kernel

theorem witness_LineStateAndPushValuesAreKept :
    (after (exec .attemptStart sec)).isSome = true ∧ Instr.attemptStart.movesLine = false ∧
    Instr.attemptStart.movesSeries = false ∧ Instr.attemptStart.movesStop = false ∧ Instr.attemptStart.movesMinute = false ∧ Instr.attemptStart.starts = false := by
  decide +kernel

theorem witness_JudgementsKeepWhatTheyDoNotJudge :
    sec.resetRecord.role = .ovens ∧ sec.running = true ∧ (car .guide).resetRecord.role = .car ∧
    (car .guide).running = true ∧ sec.flag .reset = true ∧ State.reset.running = false := by decide +kernel

/-- A write that starts sets the saved line minute of its oven alone. -/
theorem witness_JudgementsKeepWhatTheyDoNotJudge_2 :
    let s : State := { sec with
      peer := { sec.peer with lineMinute := 7 }, store := { sec.store with wanted := [.ovenOf 1] } }
    s.sched.ovens[1]? = some (oven 37 .empty 0 0) ∧ s.peer.startJoin = false ∧ s.store.write = none ∧
    (finish s s).sched.ovens.map (·.savedMinute) = [0, 7, 0] ∧ (finish s s).store.write.map (·.page) = some 7 ∧
    EventFlag.reset ≠ .linkDrop ∧ (finish s s).flag .reset = true ∧ (car .guide).resetRecord.role = .car := by
  decide +kernel

theorem witness_FinishMakesTheJudgements :
    let s : State := { sec with
      sched := { sec.sched with ovens := [oven 36 .claimed 0 1200, oven 37 .empty 0 0, oven 38 .coking 1 1199] }
      store := { sec.store with wanted := [.ovenOf 0, .station] } }
    s.running = true ∧ s.resetRecord.role = .ovens ∧ s.onLine = true ∧ s.line.q2.length + 1 ≤ 8 ∧
    s.sched.roster.length = 120 ∧ (s.sched.ovens.map (·.number)).Nodup ∧ s.store.write = none ∧ s.ownsOven 35 = false ∧
    (car .guide).running = true ∧ (car .guide).resetRecord.role = .car ∧
    (finish sec s).line.q2.map (·.frame) = [.oven 36 .busy 0] ∧ (finish sec s).store.queue = [.ovenOf 0] ∧
    (finish sec s).store.write.map (·.page) = some 14 := by decide +kernel

theorem witness_ResetTakesEffectAtOnce :
    sec.pins.rstnLow = false ∧ { sec with pins := { sec.pins with rstnLow := true } }.pins.rstnLow = true ∧
    sec.panel.restartPending = false ∧
    { sec with panel := { sec.panel with restartPending := true } }.panel.restartPending = true := by decide +kernel

theorem witness_StartSamplesTheStraps :
    State.reset.line.state = .inReset ∧ State.reset.resetRecord.failOffset = none ∧
    checkConfig .ovens State.reset.store.array = some 0 ∧ checkConfig .ovens array = none ∧
    (after (exec (.startSequence true 0) State.reset)).map (·.line.state) = some .haltedStrap := by decide +kernel

theorem witness_StartChecksTheBlockAndJoins :
    State.reset.line = LineUnit.reset ∧ checkConfig .ovens State.reset.store.array = some 0 ∧
    checkConfig .car State.reset.store.array = some 0 ∧ checkConfig .ovens array = none ∧
    checkConfig .car array = none := by decide +kernel

theorem witness_StartChecksTheBlockAndJoins_2 :
    let s := { State.reset with store := { State.reset.store with array := array } }
    (after (exec (.startSequence false 31) s)).map (fun t => (t.line.state, t.resetRecord.restored, t.resetRecord.bad))
      = some (.joining, 0, 4) ∧
    (after (exec (.startSequence true 1) s)).map (fun t => (t.line.state, t.resetRecord.bad)) = some (.joining, 1) := by
  decide +kernel

theorem witness_AcceptedBlockIsInRange :
    checkConfig .ovens array = none ∧ checkConfig .car array = none ∧ cfgSum (Memory.write array 0 1) ≠ 0 := by
  decide +kernel

/-- Blocks that fail at their first failing offset: an oven in slots 2 and 5, K = 3 for S = 6, a ceiling not above the floor,
two markers that are one, two fields at once; and fields that the other role does not use (R5, R6). -/
theorem witness_AcceptedBlockIsInRange_2 :
    let block (changes : List (Nat × Byte)) : Memory :=
      Memory.writeBytes [] 0 (withCheck (changes.foldl (fun l x => l.set x.1 x.2) block95))
    let section5 : List (Nat × Byte) := [(8, 5), (10, 40), (12, 41), (13, 40)]
    cfgSum (block section5) = 0 ∧ checkConfig .ovens (block section5) = some 13 ∧
    checkConfig .ovens (block [(17, 6), (18, 3)]) = some 18 ∧ checkConfig .ovens (block [(17, 6), (18, 5)]) = none ∧
    checkConfig .ovens (block [(30, 8)]) = some 30 ∧ checkConfig .car (block [(30, 8)]) = none ∧
    checkConfig .car (block [(67, 240)]) = some 67 ∧ checkConfig .ovens (block [(0, 11), (30, 8)]) = some 0 ∧
    checkConfig .car (block [(5, 0)]) = some 5 ∧ checkConfig .ovens (block [(5, 0)]) = none := by decide +kernel

theorem witness_SavedRecordsReadBackAndRestore :
    let o := oven 120 .coking 1200 4095
    (7 < 8 ∧ ovenInRange o.number = true ∧ between 240 2400 o.target = true ∧
      countsAgree o.state o.target o.remaining o.gross = true ∧ o.savedMinute ≤ 16777215) ∧
    readStationPage .ovens (stationPage .ovens 16777215 65535 1144) = some (16777215, 65535, 1144) ∧
    readStationPage .car (stationPage .car 0 0 1) = some (0, 0, 1) ∧ (oven 36 .charging 1200 0).state = .charging ∧
    (oven 36 .claimed 0 5).state = .claimed ∧ (oven 36 .pushing 0 5).state = .pushing := by decide +kernel

theorem witness_SavedRecordsReadBackAndRestore_2 :
    State.reset.line.state = .inReset ∧ checkConfig .ovens stored = none ∧ checkConfig .car quenchArray = none ∧
    (readConfig quenchArray).carKind = .quench ∧ readStationPage .ovens (Memory.page stored 14) = some (500, 7, 300) ∧
    readStationPage .car (Memory.page quenchArray 14) = none ∧
    (after (exec (.startSequence true 31) { State.reset with
      store := { State.reset.store with array := quenchArray } })).map (fun t => (t.car.quench, t.car.queue))
      = some (.loaded, [⟨.tower, some 240, none⟩]) := by decide +kernel

theorem witness_AttemptsStartAndLoseUncounted :
    let q : Queued := ⟨.aspirate 37, 0, false⟩
    let claiming : State := { sec with
      line := { LineUnit.reset with
        state := .active, q1 := [⟨.claim 1 36, 0, true⟩], attempt := some ⟨.claim 1 36, false⟩ }
      ticket := { TicketUnit.reset with claim := some ⟨1, 36⟩ } }
    sec.line.state = .active ∧ sec.line.attempt = none ∧
    { sec.line with q0 := [q] }.q0 = q :: [] ∧ sec.line.q0 = [] ∧ sec.line.q1 = [] ∧ sec.line.q2 = [] ∧
    { sec.line with q3 := [q] }.q3 = q :: [] ∧
    (attempting q).line.attempt = some ⟨q.frame, false⟩ ∧ (attempting q).line.queue q.frame.cls = q :: [] ∧
    claiming.line.queue 1 = ⟨.claim 1 36, 0, true⟩ :: [] ∧ claiming.ticket.claim = some ⟨1, 36⟩ ∧
    (after (exec .arbitrationLost claiming)).map (·.ticket.claim) = some none := by decide +kernel

theorem witness_TransmitErrorsDropAndWithdraw :
    let q : Queued := ⟨.aspirate 37, 7, false⟩
    let s := attempting q
    let worn : State := { s with line := { s.line with score := 7 } }
    let out : State := { sec with line := { sec.line with state := .withdrawn, withdrawTimer := some 10000 } }
    s.line.attempt = some ⟨q.frame, false⟩ ∧ s.line.queue q.frame.cls = q :: [] ∧
    s.line.score + 1 < s.cfg.withdrawThreshold ∧ worn.cfg.withdrawThreshold ≤ worn.line.score + 1 ∧
    8 ≤ q.attempts + 1 ∧ (attempting ⟨.aspirate 37, 6, false⟩).line.queue 2 = [⟨.aspirate 37, 6, false⟩] ∧
    (attempting ⟨.aspirate 37, 7, true⟩).line.queue 2 = [⟨.aspirate 37, 7, true⟩] ∧
    out.line.state = .withdrawn ∧ out.line.withdrawTimer.isSome = true ∧
    (after (exec .transmitError s)).map (·.line.counters.txDrop) = some 1 ∧
    (after (exec .transmitError worn)).map (·.line.state) = some .withdrawn := by decide +kernel

/-- The claimant that withdraws itself, and an outstanding claim (R84, R96). -/
theorem witness_TransmitErrorsDropAndWithdraw_2 :
    let worn (s : State) : State := { s with
      line := { s.line with score := 7, q2 := [⟨.aspirate 37, 0, false⟩], attempt := some ⟨.aspirate 37, false⟩ } }
    let s := worn (claimant .opened)
    let offered := worn { claimant .opened with
      ticket := { (claimant .opened).ticket with record := some { record .opened with abandonOffered := true } } }
    let claims := worn { sec with
      ticket := { sec.ticket with claim := some ⟨1, 36⟩ }, line := { sec.line with q1 := [⟨.claim 1 36, 0, false⟩] } }
    s.cfg.withdrawThreshold ≤ s.line.score + 1 ∧ s.ticket.record = some (record .opened) ∧
    s.ticket.context.isSome = true ∧ (worn (claimant .gone)).ticket.record = some (record .gone) ∧ s.onLine = true ∧
    claims.ticket.claim = some ⟨1, 36⟩ ∧ claims.line.holds (.claim 1 36) = true ∧ s.ticket.claim = none ∧
    (after (exec .transmitError s)).map (fun t => (t.ticket.record, t.line.q0.map (·.frame), t.line.q2.length))
      = some (none, [.abandon 1 36 .ownerRestart], 1) ∧
    (after (exec .transmitError offered)).map (fun t => (t.ticket.record, t.line.q0)) = some (none, []) ∧
    (after (exec .transmitError claims)).map (fun t => (t.ticket.claim, t.line.q1)) = some (none, []) := by
  decide +kernel

/-- A STOP of the pin dropped at its eighth failure waits to be offered again (R27, R202). -/
theorem witness_TransmitErrorsDropAndWithdraw_3 :
    let q : Queued := ⟨.stop .stopPin, 7, false⟩
    let s : State := { sec with line := { sec.line with q0 := [q], attempt := some ⟨q.frame, false⟩ } }
    s.line.queue q.frame.cls = [q] ∧ s.line.score + 1 < s.cfg.withdrawThreshold ∧ 8 ≤ q.attempts + 1 ∧
    q.frame ∉ s.line.dropped ∧
    (after (exec .transmitError s)).map (fun t => (t.line.q0, t.line.dropped)) = some ([], [.stop .stopPin]) := by
  decide +kernel

/-- The CLAIM of an outstanding claim leaves its queue at WITHDRAWN, an attempt of class 2 having failed (R84). -/
theorem witness_TransmitErrorsDropAndWithdraw_4 :
    let s : State := { sec with
      ticket := { sec.ticket with claim := some ⟨1, 36⟩ }
      line := { sec.line with
        score := 7, q1 := [⟨.claim 1 36, 0, false⟩], q2 := [⟨.aspirate 37, 0, false⟩], attempt := some ⟨.aspirate 37, false⟩ } }
    s.queuesOk ∧ s.line.holds (.claim 1 36) = true ∧ (Frame.aspirate 37).cls ≠ 1 ∧
    s.cfg.withdrawThreshold ≤ s.line.score + 1 := by unfold State.queuesOk; decide +kernel

theorem witness_CompletionsSendAndOffersQueue :
    let s := attempting ⟨.aspirate 37, 0, false⟩
    s.line.attempt = some ⟨.aspirate 37, false⟩ ∧ s.line.dropped = [] ∧
    (after (exec .attemptComplete s)).map (·.line.ownReturn) = some [.aspirate 37] := by decide +kernel

theorem witness_CompletionsSendAndOffersQueue_2 :
    let q : Queued := ⟨.aspirate 37, 0, false⟩
    let full : State := { sec with line := { sec.line with q2 := List.replicate 8 q } }
    let kept : State := { claimant .claimed with
      line := { (attempting q).line with dropped := [.abandon 1 36 .declined] } }
    let gone : State := { sec with line := { (attempting q).line with dropped := [.abandon 1 36 .declined] } }
    sec.onLine = true ∧ (Frame.aspirate 37).cls < 3 ∧ (sec.line.queue 2).length < classCapacity 2 ∧
    classCapacity 2 ≤ (full.line.queue 2).length ∧ State.reset.onLine = false ∧
    kept.onLine = true ∧ reofferStands (.abandon 1 36 .declined) kept = true ∧
    reofferStands (.abandon 1 36 .declined) gone = false ∧
    (after (exec .attemptComplete kept)).map (fun t => t.line.q0.map (·.frame)) = some [.abandon 1 36 .declined] := by
  decide +kernel

/-- A car's dropped answers, in their order and behind the class of the frame just sent (R22, R130). -/
theorem witness_CompletionsSendAndOffersQueue_3 :
    let s : State := { serving .quench .opened with
      line := { LineUnit.reset with
        state := .active, q1 := [⟨.assent 1 36 .quench, 0, false⟩], attempt := some ⟨.assent 1 36 .quench, false⟩
        dropped := [.spotted 1 36 .quench, .decline 1 36 .quench .fault, .decline 2 36 .quench .fault] } }
    let full : State := { s with line := { s.line with q1 := List.replicate 8 ⟨.assent 1 36 .quench, 0, false⟩ } }
    s.onLine = true ∧ s.resetRecord.role = .car ∧ classCapacity 1 ≤ (full.line.queue 1).length ∧
    (Frame.spotted 1 36 .quench).names = some (1, 36) ∧ s.ticket.record = some (record .opened) ∧
    s.car.quench = .empty ∧ reofferStands (.stop .stopPin) s = false ∧ Frame.resume.names = none ∧
    (after (exec .attemptComplete s)).map (fun t => (t.line.q1.map (·.frame), t.line.dropped))
      = some ([.spotted 1 36 .quench, .decline 1 36 .quench .fault], []) := by decide +kernel

/-- What a drop at a full class 0 keeps at a section: ABANDON while its record stands before GONE with its mark set, the
STOP of the pin once, and nothing else (R86, R202). -/
theorem witness_CompletionsSendAndOffersQueue_4 :
    let full (p : Phase) (marked : Bool) : State := { claimant p with
      line := { sec.line with q0 := List.replicate 4 ⟨.resume, 0, false⟩ }
      ticket := { (claimant p).ticket with record := some { record p with abandonOffered := marked } } }
    let kept (s : State) (f : Frame) : List Frame := (offer f s).line.dropped
    (full .opened true).onLine = true ∧ classCapacity 0 ≤ ((full .opened true).line.queue 0).length ∧
    (full .opened true).resetRecord.role = .ovens ∧
    kept (full .opened true) (.abandon 1 36 .carLost) = [.abandon 1 36 .carLost] ∧
    kept (full .opened false) (.abandon 1 36 .carLost) = [] ∧ kept (full .gone true) (.abandon 1 36 .carLost) = [] ∧
    kept (full .opened true) (.abandon 2 36 .carLost) = [] ∧
    kept (full .opened true) (.stop .stopPin) = [.stop .stopPin] ∧
    kept (offer (.stop .stopPin) (full .opened true)) (.stop .stopPin) = [.stop .stopPin] ∧
    kept (full .opened true) (.stop .panel) = [] ∧ kept (full .opened true) .resume = [] := by decide +kernel

theorem witness_ReceptionIsCountedAndGated :
    let dup := inState .haltedDuplicate sec
    State.reset.running = false ∧ sec.running = true ∧ ((Frame.claim 1 121).valid && between 1 31 1) = false ∧
    ((Frame.claim 1 1).valid && between 1 31 32) = false ∧ dup.running = true ∧ dup.line.state = .haltedDuplicate ∧
    sec.onLine = true ∧ ((Frame.claim 1 1).valid && between 1 31 8) = true ∧ 8 ≠ sec.own ∧
    sec.gatePasses 8 (.claim 1 1) = false ∧ sec.own = 9 ∧ sec.returning (.claim 1 1) = false ∧
    sec.handsOn 1 (.claim 1 1) = true ∧ (returning .resume sec).handsOn 9 .resume = true ∧
    { sec.line with cutOff := true }.cutOff = true ∧ sec.line.cutOff = false ∧
    (after (exec (.receiveFault .form) { sec with line := { sec.line with cutOff := true } })).map
      (fun t => (t.line.counters.rxBad, t.line.cutOff)) = some (0, false) ∧
    (after (exec (.receiveFault .check) { sec with line := { sec.line with cutOff := true } })).map
      (·.line.counters.rxBad) = some 0 ∧
    (after (exec (.receiveFault .check) sec)).map (·.line.counters.rxBad) = some 1 := by
  decide +kernel

theorem witness_StopAndResumeSetAndClearTheFlag :
    let stopped : State := { sec with ticket := { sec.ticket with stopFlag := true } }
    let pinned : State := { stopped with panel := { stopped.panel with stopn := ⟨true, none⟩ } }
    sec.handsOn 1 (.stop .panel) = true ∧ sec.ticket.stopFlag = false ∧ sec.line.attempt = none ∧
    stopped.handsOn 1 (.stop .panel) = true ∧ stopped.handsOn 1 .resume = true ∧ stopped.panel.stopn.accepted = false ∧
    pinned.panel.stopn.accepted = true ∧ pinned.line.q0.length < 4 ∧ sec.resetRecord.role = .ovens := by decide +kernel

theorem witness_FirstClaimOpensTheRecord :
    let mine : State := returning (.claim 1 36) { sec with ticket := { sec.ticket with claim := some ⟨1, 36⟩ } }
    sec.handsOn 1 (.claim 1 36) = true ∧ sec.ownsOven 36 = true ∧ 1 ≠ sec.own ∧
    sec.handsOn 1 (.claim 1 120) = true ∧ sec.ownsOven 120 = false ∧ sec.fromSection 1 = true ∧
    sec.ticket.record = none ∧ (1 : Ticket) = sec.ticket.lastDone + 1 ∧
    mine.handsOn 9 (.claim 1 36) = true ∧ mine.ticket.claim = some ⟨1, 36⟩ ∧ mine.fromSection 9 = true ∧
    (2 : Ticket) ≠ sec.ticket.lastDone + 1 ∧ sec.handsOn 1 (.claim 2 120) = true ∧
    sec.handsOn 3 (.claim 1 120) = true ∧ sec.fromSection 3 = false ∧
    (after (exec (.claimFrame 3 1 36) sec)).map (·.line.state) = some .active ∧
    (after (exec (.claimFrame 1 1 36) sec)).map (·.line.state) = some .haltedDuplicate ∧
    (after (exec (.claimFrame 9 1 36) mine)).map (fun t => t.ticket.record.isSome) = some true := by decide +kernel

/-- The own oven at an opening and at a lost claim (R68, R83). -/
theorem witness_FirstClaimOpensTheRecord_2 :
    let pending : State := { sec with
      ticket := { sec.ticket with claim := some ⟨1, 36⟩ }
      sched := { sec.sched with ovens := [{ oven 36 .ripe 0 1200 with pending := true }, oven 37 .empty 0 0] } }
    let mine := returning (.claim 1 36) pending
    let late := returning (.claim 1 36) { pending with
      ticket := { pending.ticket with record := some { record .claimed with oven := 120, claimant := some 1 } } }
    let ovens (s : State) := (after (exec (.claimFrame 9 1 36) s)).map fun t => t.sched.ovens.map fun o => (o.state, o.pending)
    mine.handsOn 9 (.claim 1 36) = true ∧ mine.slotOf 36 = some 0 ∧ mine.ticket.claim = some ⟨1, 36⟩ ∧
    mine.sched.ovens[0]? = some { oven 36 .ripe 0 1200 with pending := true } ∧ late.handsOn 9 (.claim 1 36) = true ∧
    late.ticket.record ≠ none ∧ ovens mine = some [(.claimed, false), (.empty, false)] ∧
    ovens late = some [(.ripe, false), (.empty, false)] := by decide +kernel

theorem witness_CarAnswersTheClaim :
    let s := car .guide
    let move : Move := ⟨.spot, some 4, some 1⟩
    s.resetRecord.role = .car ∧ s.handsOn 1 (.claim 1 120) = true ∧ s.fromSection 1 = true ∧ s.ownsOven 120 = false ∧
    s.ticket.claim = none ∧ s.ticket.record = none ∧ (1 : Ticket) = s.ticket.lastDone + 1 ∧
    { s.ticket with stopFlag := true }.stopFlag = true ∧ s.ticket.stopFlag = false ∧
    { s.car with position := none }.position = none ∧ s.car.position ≠ none ∧ s.car.state ≠ .fault ∧
    { s.car with state := .fault }.state = .fault ∧ 4 ≤ { s.car with queue := List.replicate 4 move }.queue.length ∧
    s.car.queue.length < 4 ∧ s.cfg.marker1 + (120 - 1) * s.cfg.pitch ≤ 255 ∧
    255 < { s.cfg with marker1 := 20 }.marker1 + (120 - 1) * s.cfg.pitch ∧ s.onLine = true ∧ s.line.q1.length < 8 ∧
    (after (exec (.claimFrame 1 1 120) s)).map (fun t => (t.car.served, t.car.state, t.line.q1.map (·.frame)))
      = some (some 1, .moving, [.assent 1 120 .guide]) := by decide +kernel

theorem witness_AssentAndDeclineMoveTheRecord :
    let s := claimant .claimed
    let again : State := { s with
      ticket := { s.ticket with record := some { record .claimed with assents := ⟨true, true, false⟩ } } }
    s.ticket.record = some (record .claimed) ∧ s.ticket.context.isSome = true ∧ (record .claimed).phase.beforeGone = true ∧
    (record .gone).phase.beforeGone = false ∧ s.line.q0.length < 4 ∧
    s.handsOn 3 (.assent 1 36 .pusher) = true ∧ s.fromCar 3 .pusher = true ∧
    (record .claimed).assents.has .pusher = false ∧ again.handsOn 3 (.assent 1 36 .pusher) = true ∧
    s.handsOn 3 (.assent 1 37 .pusher) = true ∧ s.handsOn 3 (.assent 2 36 .pusher) = true ∧
    s.fromCar 5 .pusher = false ∧ s.handsOn 3 (.decline 1 36 .pusher .range) = true ∧
    s.handsOn 3 (.decline 1 37 .pusher .range) = true ∧
    (after (exec (.assentFrame 7 1 36 .quench) again)).map (fun t => t.ticket.record.map (·.phase))
      = some (some .assented) := by decide +kernel

/-- The third ASSENT at the claimant: its limits and its oven (R68, R105, R106). -/
theorem witness_AssentAndDeclineMoveTheRecord_2 :
    let base := claimant .claimed
    let s : State := { base with
      ticket := { base.ticket with record := some { record .claimed with assents := ⟨true, true, false⟩ } } }
    s.resetRecord.role = .ovens ∧ s.slotOf 36 = some 0 ∧ s.sched.ovens[0]? = some (oven 36 .ripe 0 1200) ∧
    s.handsOn 7 (.assent 1 36 .quench) = true ∧ s.fromCar 7 .quench = true ∧
    (after (exec (.assentFrame 7 1 36 .quench) s)).map
      (fun t => (t.ticket.context.map fun c => (c.assent, c.spot), (t.sched.ovens.map (·.state)).head?))
      = some (some (.stopped, .running 600000), some .claimed) := by decide +kernel

theorem witness_PushFramesMoveTheRecordForward :
    let own := returning (.opening 1 36) (claimant .assented)
    let go := returning (.go 1 36) (claimant .opened)
    let s := claimant .gone
    own.handsOn 9 (.opening 1 36) = true ∧ own.ticket.record = some (record .assented) ∧
    go.handsOn 9 (.go 1 36) = true ∧ s.handsOn 3 (.stall 1 36) = true ∧ s.fromCar 3 .pusher = true ∧
    s.handsOn 3 (.spotted 1 36 .pusher) = true ∧ s.handsOn 5 (.ready 1 36 .guide) = true ∧
    s.handsOn 1 (.opening 2 36) = true ∧ s.handsOn 1 (.go 1 37) = true ∧ s.handsOn 3 (.stall 2 36) = true ∧
    s.handsOn 3 (.spotted 1 37 .pusher) = true ∧ s.handsOn 5 (.ready 1 37 .guide) = true ∧
    (after (exec (.stallFrame 3 1 36) s)).map (fun t => t.ticket.record.map (·.phase)) = some (some .stuck) := by
  decide +kernel

/-- The own OPEN that returns with a door on and with both doors OFF, and the own GO (R68, R104, R107, R111). -/
theorem witness_PushFramesMoveTheRecordForward_2 :
    let offered (p : Phase) : State := { claimant p with
      ticket := { (claimant p).ticket with
        context := some { Context.idle with
          assent := .running 5, spot := .running 5, openOffered := true, goOffered := true } } }
    let own := returning (.opening 1 36) (offered .assented)
    let shut : State := { own with door := [⟨door .sealed, door .off⟩, ⟨door .off, door .off⟩, ⟨door .off, door .off⟩] }
    let go := returning (.go 1 36) (offered .opened)
    let left (o : Host.Outcome State Fault Refusal) :=
      (after o).map fun t => t.ticket.context.map fun c => (c.assent, c.spot, c.doorOff)
    own.doorState 0 .pusherSide = .off ∧ own.doorState 0 .cokeSide = .off ∧ shut.doorState 0 .pusherSide ≠ .off ∧
    shut.handsOn 9 (.opening 1 36) = true ∧ (record .assented).claimant = some 9 ∧ own.slotOf 36 = some 0 ∧
    left (exec (.openFrame 9 1 36) own) = some (some (.stopped, .running 5, .stopped)) ∧
    left (exec (.openFrame 9 1 36) shut) = some (some (.stopped, .running 5, .running 120000)) ∧
    left (exec (.goFrame 9 1 36) go) = some (some (.stopped, .stopped, .stopped)) ∧
    (after (exec (.openFrame 9 1 36) own)).map
      (fun t => (t.ticket.context.map (·.openOffered), (t.sched.ovens.map (·.state)).head?))
      = some (some false, some .pushing) := by decide +kernel

theorem witness_DoneAndAbandonCloseTheRecord :
    let s := claimant .gone
    s.handsOn 3 (.finished 1 36) = true ∧ s.fromCar 3 .pusher = true ∧ s.ticket.record = some (record .gone) ∧
    s.slotOf 36 = some 0 ∧ s.sched.ovens[0]? = some (oven 36 .ripe 0 1200) ∧ s.handsOn 3 (.finished 1 37) = true ∧
    s.handsOn 3 (.finished 32767 36) = true ∧ (record .gone).ticket ≠ 32767 ∧
    ticketLater 32767 s.ticket.lastDone = true ∧ sec.ticket.record = none ∧ sec.ticket.context = none ∧
    ticketLater 32768 s.ticket.lastDone = false ∧ s.handsOn 3 (.finished 32768 36) = true ∧ s.fromCar 5 .pusher = false ∧
    (after (exec (.doneFrame 3 1 36) s)).map (fun t => (t.ticket.lastDone, t.sched.cursor)) =
      some (1, rankOf cfg 36) := by decide +kernel

theorem witness_DoneAndAbandonCloseTheRecord_2 :
    let s := claimant .opened
    s.handsOn 1 (.abandon 1 36 .declined) = true ∧ s.fromSection 1 = true ∧ s.ticket.record = some (record .opened) ∧
    (record .opened).phase.beforeGone = true ∧ (claimant .stuck).handsOn 3 (.abandon 1 36 .stalled) = true ∧
    (claimant .stuck).fromCar 3 .pusher = true ∧ (claimant .gone).handsOn 1 (.abandon 1 36 .declined) = true ∧
    (record .gone).phase.beforeGone = false ∧ s.handsOn 1 (.abandon 2 36 .declined) = true ∧ sec.ticket.record = none ∧
    (after (exec (.abandonFrame 1 1 36 .declined) s)).map (fun t => (t.ticket.record, t.flag .ticketAbandoned))
      = some (none, true) := by decide +kernel

/-- The claimant of a record with oven 36 PUSHING. -/
def pushing (p : Phase) : State :=
  { claimant p with
    sched := { sec.sched with ovens := [oven 36 .pushing 0 1200, oven 37 .empty 0 0, oven 38 .coking 5 1195] } }

/-- What a command leaves of oven 36 and of TICKET_ABANDONED. -/
def closing (c : Instr) (p : Phase) : Option (Option OvenState × Bool) :=
  (after (exec c (pushing p))).map fun t => (t.sched.ovens[0]?.map (·.state), t.flag .ticketAbandoned)

/-- What each closing makes of the record's own oven, and of TICKET_ABANDONED (R70, R71, R93). -/
theorem witness_DoneAndAbandonCloseTheRecord_3 :
    let s := pushing .opened
    s.slotOf 36 = some 0 ∧ s.sched.ovens[0]? = some (oven 36 .pushing 0 1200) ∧ s.ticket.claim.isNone = true ∧
    s.resetRecord.role = .ovens ∧ closing (.doneFrame 3 1 36) .gone = some (some .empty, false) ∧
    closing (.doneFrame 3 5 120) .opened = some (some .empty, false) ∧
    closing (.doneFrame 3 1 37) .opened = some (some .ripe, true) ∧
    closing (.doneFrame 3 1 37) .gone = some (some .outOfService, true) ∧
    closing (.abandonFrame 3 1 36 .stalled) .stuck = some (some .outOfService, true) ∧
    (after (exec (.doneFrame 3 1 37) (pushing .opened))).map (fun t => t.ticket.backoff) = some (some 30000) := by
  decide +kernel

theorem witness_AspirationAndOvenFramesAreTaken :
    let sealed := door .sealed
    let ready : State := { sec with door := [⟨sealed, sealed⟩, ⟨sealed, sealed⟩, ⟨sealed, sealed⟩] }
    let mine := returning (.aspirate 37) ready
    let held : State := { mine with press := { mine.press with listHold := some 1 } }
    let full : State := { sec with press := { sec.press with entries := [⟨1, 1, 5⟩, ⟨2, 1, 5⟩] } }
    (car .guide).handsOn 1 (.aspirate 1) = true ∧ sec.handsOn 1 (.aspirate 37) = true ∧ sec.ownsOven 37 = true ∧
    sec.handsOn 1 (.aspirate 120) = true ∧ sec.ownsOven 120 = false ∧ sec.fromSection 1 = true ∧
    sec.press.entries.length < sec.cfg.aspirationLimit ∧ sec.press.listHold = none ∧
    mine.handsOn 9 (.aspirate 37) = true ∧ mine.slotOf 37 = some 1 ∧ mine.doorState 1 .pusherSide = .sealed ∧
    mine.doorState 1 .cokeSide = .sealed ∧
    mine.sched.ovens[1]? = some (oven 37 .empty 0 0) ∧ (returning (.aspirate 37) sec).doorState 1 .cokeSide ≠ .sealed ∧
    (after (exec (.aspirateFrame 9 37) (returning (.aspirate 37) sec))).map (fun t => t.line.q2.map (·.frame))
      = some [.aspirateEnd 37] ∧
    held.press.listHold ≠ none ∧ full.cfg.aspirationLimit ≤ full.press.entries.length ∧
    full.handsOn 1 (.aspirate 120) = true ∧ sec.handsOn 3 (.aspirate 120) = true ∧ sec.fromSection 3 = false ∧
    full.handsOn 1 (.aspirateEnd 2) = true ∧ sec.handsOn 3 (.aspirateEnd 2) = true ∧
    (after (exec (.aspirateFrame 9 37) mine)).map (fun t => t.sched.ovens.map (·.state)) =
      some [.ripe, .charging, .coking] := by decide +kernel

theorem witness_AspirationAndOvenFramesAreTaken_2 :
    let other : State := { sec with sched := { sec.sched with roster := sec.sched.roster.set 119 ⟨.current, 2, .ripe, 0⟩ } }
    sec.handsOn 1 (.oven 120 .ripe 0) = true ∧ sec.sched.roster.length = 120 ∧ (sec.rosterAt 120).state ≠ .current ∧
    sec.ownsOven 120 = false ∧ sec.handsOn 1 (.oven 36 .ripe 0) = true ∧ sec.ownsOven 36 = true ∧
    (returning (.oven 36 .ripe 0) sec).handsOn 9 (.oven 36 .ripe 0) = true ∧
    (car .guide).handsOn 1 (.oven 36 .ripe 0) = true ∧ other.handsOn 1 (.oven 120 .ripe 0) = true ∧
    (other.rosterAt 120).state = .current ∧ (other.rosterAt 120).owner ≠ 1 := by decide +kernel

theorem witness_OrdersAreGivenAndEnd :
    let sealed := door .sealed
    let at_ (p : Phase) (a : KindSet) (d : Door) : State := { claimant p with
      ticket := { (claimant p).ticket with record := some { record p with assents := a } }
      door := [⟨d, door .off⟩, ⟨door .off, door .off⟩, ⟨door .off, door .off⟩] }
    let s := at_ .claimed ⟨true, true, false⟩ sealed
    let opened := returning (.opening 1 36) s
    let ended := at_ .gone .none (door .deflated)
    s.resetRecord.role = .ovens ∧ s.ticket.record = some { record .claimed with assents := ⟨true, true, false⟩ } ∧
    s.slotOf 36 = some 0 ∧ s.door[0]? = some ⟨sealed, door .off⟩ ∧ s.handsOn 7 (.assent 1 36 .quench) = true ∧
    s.fromCar 7 .quench = true ∧ (KindSet.put ⟨true, true, false⟩ .quench true).full = true ∧
    opened.handsOn 9 (.opening 1 36) = true ∧ (returning (.go 1 36) s).handsOn 9 (.go 1 36) = true ∧
    (record .claimed).claimant = some 9 ∧ s.handsOn 3 (.stall 1 36) = true ∧ s.fromCar 3 .pusher = true ∧
    (after (exec (.stallFrame 3 1 36) s)).map (fun t => t.door.map (·.p.state)) = some [.deflated, .off, .off] ∧
    ended.handsOn 3 (.finished 1 36) = true ∧ ended.fromCar 3 .pusher = true ∧
    (at_ .opened .none sealed).handsOn 1 (.abandon 1 36 .declined) = true ∧ ended.handsOn 3 (.abandon 1 36 .stalled) = true ∧
    (after (exec (.assentFrame 7 1 36 .quench) s)).map (fun t => t.door.map (·.p.state)) = some [.deflated, .off, .off] ∧
    (after (exec (.goFrame 9 1 36) (returning (.go 1 36) s))).map (fun t => t.door.map (·.p.state))
      = some [.deflated, .off, .off] ∧
    (after (exec (.doneFrame 3 1 36) ended)).map (fun t => t.door.map (·.p.state)) = some [.inflating, .off, .off] := by
  decide +kernel

/-- The claimant of a record with both doors of oven 36 DEFLATED, the record's claimant given. -/
def ordered (n : Nat) (p : Phase) : State :=
  { claimant p with
    ticket := { (claimant p).ticket with record := some { record p with claimant := some n } }
    door := [⟨door .deflated, door .deflated⟩, ⟨door .off, door .off⟩, ⟨door .off, door .off⟩] }

/-- The same at a transmit error that reaches the withdraw threshold. -/
def failing (p : Phase) : State :=
  { ordered 9 p with line := { (attempting ⟨.oven 36 .ripe 0, 0, false⟩).line with score := 7 } }

/-- A start join at its end, with a choice of last-done and open ticket. -/
def joining (oven : Nat) (last : Ticket) (p : Phase) (s : State) : State :=
  { inState .joining s with
    peer := { sec.peer with
      joinTimer := some 1, startJoin := true
      choice := some ⟨⟨50, last, last + 1, oven, some p, false, 300, 5⟩, .ovens⟩ } }

/-- What a command leaves of the pusher side door of slot 1 and of its orders. -/
def orders (c : Instr) (s : State) : Option (DoorState × Bool) :=
  (after (exec c s)).map fun t => (t.doorState 0 .pusherSide, t.orderStands 0)

/-- The orders end with a record closed by a later DONE, by STANDING and by silence, and stand otherwise (R101, R164). -/
theorem witness_OrdersAreGivenAndEnd_2 :
    (ordered 9 .gone).handsOn 1 (.standing (secStanding 0 5)) = true ∧
    (ordered 9 .gone).clashes (secStanding 0 5) = false ∧ (ordered 9 .gone).slotOf 36 = some 0 ∧
    (ordered 9 .gone).door[0]? = some ⟨door .deflated, door .deflated⟩ ∧
    (ordered 9 .gone).ticket.record = some (record .gone) ∧
    orders (.doneFrame 3 5 120) (ordered 9 .opened) = some (.inflating, false) ∧
    orders (.standingFrame 1 (secStanding 0 5)) (ordered 9 .gone) = some (.inflating, false) ∧
    orders (.standingFrame 1 (secStanding 0 0)) (ordered 9 .gone) = some (.deflated, true) ∧
    orders (.standingFrame 1 guideStanding) (ordered 1 .opened) = some (.inflating, false) ∧
    orders (.standingFrame 1 guideStanding) (ordered 1 .gone) = some (.deflated, true) ∧
    orders (.silenceTimerExpiry 1) (ordered 1 .opened) = some (.inflating, false) ∧
    orders (.silenceTimerExpiry 1) (ordered 1 .gone) = some (.deflated, true) := by decide +kernel

/-- They end at WITHDRAWN and at a start join, STOP and HALTED(DUPLICATE) lift none, and an adopted record gives them (R49,
R101, R117, R164). -/
theorem witness_OrdersAreGivenAndEnd_3 :
    (failing .opened).line.attempt = some ⟨.oven 36 .ripe 0, false⟩ ∧
    (failing .opened).cfg.withdrawThreshold ≤ (failing .opened).line.score + 1 ∧
    orders .transmitError (failing .opened) = some (.inflating, false) ∧
    orders .transmitError (failing .gone) = some (.deflated, true) ∧
    orders (.stopFrame 1 .panel) (ordered 9 .opened) = some (.deflated, true) ∧
    (ordered 9 .opened).returning (.stop .panel) = false ∧
    orders (.stopFrame 9 .panel) (ordered 9 .opened) = some (.deflated, true) ∧
    (joining 120 5 .gone (ordered 9 .gone)).ownsOven 120 = false ∧
    orders .joinWindowExpiry (joining 120 5 .gone (ordered 9 .gone)) = some (.inflating, false) ∧
    sec.ticket.record = none ∧ ticketLater 5 sec.ticket.lastDone = true ∧
    orders .joinWindowExpiry (joining 36 5 .gone (doorPair (door .sealed) (door .off))) = some (.deflated, true) ∧
    orders .joinWindowExpiry (joining 36 0 .opened (doorPair (door .sealed) (door .off))) = some (.deflated, true) ∧
    orders .joinWindowExpiry (joining 36 0 .claimed (doorPair (door .sealed) (door .off))) = some (.sealed, false) := by
  decide +kernel

theorem witness_StandingUpdatesPeerMinuteAndTicket :
    let join : State := { inState .joining sec with peer := { sec.peer with startJoin := true } }
    sec.handsOn 1 (.standing (secStanding 9 5)) = true ∧ sec.peer.table.length = 31 ∧
    sec.clashes (secStanding 9 5) = false ∧ (sec.peerAt 1).standing = .inStanding ∧ (sec.peerAt 8).standing = .probation ∧
    sec.handsOn 8 (.standing (secStanding 9 5)) = true ∧ (sec.peerAt 2).standing = .absent ∧
    sec.handsOn 2 (.standing (secStanding 9 5)) = true ∧ sec.handsOn 1 (.standing guideStanding) = true ∧
    (sec.peerAt 1).role ≠ some guideStanding.part.role ∧
    sec.clashes ⟨(secStanding 9 5).common, .ofSection [⟨36, .ripe, 0⟩]⟩ = true ∧
    sec.handsOn 1 (.standing ⟨(secStanding 9 5).common, .ofSection [⟨36, .ripe, 0⟩]⟩) = true ∧
    (returning (.standing (secStanding 9 5)) sec).handsOn 9 (.standing (secStanding 9 5)) = true ∧
    sec.peer.lineMinute < (secStanding 9 5).common.lineMinute ∧ ticketLater 5 sec.ticket.lastDone = true ∧
    (secStanding 0 0).common.lineMinute ≤ sec.peer.lineMinute ∧
    join.handsOn 2 (.standing (secStanding 9 5)) = true ∧ join.line.state = .joining ∧ join.peer.startJoin = true := by
  decide +kernel

/-- The jump of the coking clocks, and a served ticket that its car no longer shows (R58, R97). -/
theorem witness_StandingUpdatesPeerMinuteAndTicket_2 :
    let jump (m : Nat) : State := { sec with
      peer := { sec.peer with lineMinute := 8 }
      sched := { sec.sched with ovens := [oven 36 .ripe 0 1200, oven 37 .empty 0 0, oven 38 .coking m (1200 - m)] } }
    let shown (served : Option Ticket) : Standing := ⟨⟨0, 0, 0, 0, none, false, 0, 5⟩, .ofCar .guide (some 2) .idle none served⟩
    let lost (marks : List Nat) : State := { claimant .assented with
      ticket := { (claimant .assented).ticket with
        record := some { record .assented with assents := ⟨true, true, true⟩ }
        context := some { Context.idle with served := ⟨[], marks, []⟩ } } }
    (jump 2).handsOn 1 (.standing (secStanding 10 0)) = true ∧ (jump 2).peer.startJoin = false ∧
    (jump 2).ticket.record = none ∧ (jump 2).ticket.claim = none ∧
    (jump 2).peer.lineMinute < (secStanding 10 0).common.lineMinute ∧ (lost [5]).handsOn 5 (.standing (shown none)) = true ∧
    (lost [5]).line.state = .active ∧ (lost [5]).clashes (shown none) = false ∧ (lost [5]).line.q0.length < 4 ∧
    (lost [5]).peerAt 5 = peer .car (some .guide) ∧ 5 ∉ [6] ∧ (lost [5]).handsOn 5 (.standing (secStanding 0 0)) = true ∧
    ticketLater (shown none).common.lastDone (lost [5]).ticket.lastDone = false ∧ (record .assented).claimant ≠ some 5 ∧
    (after (exec (.standingFrame 1 (secStanding 10 0)) (jump 2))).map (fun t => t.sched.ovens.map fun o => (o.state, o.gross))
      = some [(.ripe, 1202), (.empty, 0), (.ripe, 1200)] ∧
    (after (exec (.standingFrame 1 (secStanding 10 0)) (jump 3))).map (fun t => t.sched.ovens.map (·.remaining))
      = some [0, 0, 1] ∧
    (after (exec (.standingFrame 5 (shown none)) (lost [5]))).map (fun t => t.line.q0.map (·.frame))
      = some [.abandon 1 36 .carLost] ∧
    (after (exec (.standingFrame 5 (shown none)) (lost [6]))).map (fun t => t.line.q0.map (·.frame)) = some [] := by
  decide +kernel

/-- The join choice, the roster list, and the jump with a record held (R47, R53, R58). -/
theorem witness_StandingUpdatesPeerMinuteAndTicket_3 :
    let chosen (last : Ticket) : State := { inState .joining sec with
      peer := { sec.peer with startJoin := true, choice := some ⟨(secStanding 1 last).common, .car⟩ } }
    let kept (t : State) := t.peer.choice.map (·.role)
    let listed : State := { sec with sched := { sec.sched with
      roster := (sec.sched.roster.set 0 ⟨.current, 2, .skip, 0⟩).set 1 ⟨.current, 1, .ripe, 0⟩ } }
    let holds : State := { claimant .claimed with
      peer := { sec.peer with lineMinute := 8 }
      sched := { sec.sched with ovens := [oven 36 .claimed 0 1200, oven 37 .empty 0 0, oven 38 .coking 5 1195] } }
    let gives (s : State) (b : Standing) := after (exec (.standingFrame 1 b) s)
    ticketLater 5 (4 : Ticket) = true ∧ ticketLater 5 (6 : Ticket) = false ∧
    (gives (chosen 4) (secStanding 9 5)).map kept = some (some .ovens) ∧
    (gives (chosen 5) (secStanding 9 5)).map kept = some (some .ovens) ∧
    (gives (chosen 6) (secStanding 9 5)).map kept = some (some .car) ∧ listed.sched.roster.length = 120 ∧
    (gives sec (secStanding 0 0)).map (fun t => t.rosterAt 1) = some ⟨.current, 1, .coking, 30⟩ ∧
    (gives listed (secStanding 0 0)).map (fun t => (t.rosterAt 1, t.rosterAt 2, t.flag .conflict))
      = some (⟨.current, 2, .skip, 0⟩, ⟨.absent, 0, .skip, 0⟩, true) ∧
    (gives listed { guideStanding with common := { guideStanding.common with cursor := 0 } }).map (fun t => t.rosterAt 2)
      = some ⟨.stale, 1, .ripe, 0⟩ ∧
    (gives holds (secStanding 10 0)).map (fun t => t.sched.ovens.map (·.gross)) = some [1202, 0, 1197] := by decide +kernel

/-- What a STANDING from station 1 leaves of oven 36, of TICKET_ABANDONED and of the claimant context. -/
def standingCloses (s : State) (b : Standing) : Option (Option OvenState × Bool × Bool) :=
  (after (exec (.standingFrame 1 b) s)).map fun t =>
    (t.sched.ovens[0]?.map (·.state), t.flag .ticketAbandoned, t.ticket.context.isSome)

/-- The section with station 8 a car in probation, and a pusher car's STANDING. -/
def secondCar (kind : CarKind) : State :=
  { sec with
    peer := { sec.peer with table := sec.peer.table.set 7 { peer .car (some kind) with standing := .probation, count := 1 } } }

def pusherStanding : Standing := ⟨⟨0, 0, 0, 0, none, false, 0, 5⟩, .ofCar .pusher (some 2) .idle none none⟩

/-- A later last-done and a departing claimant close the record (R70, R71, R94, R96). -/
theorem witness_StandingUpdatesPeerMinuteAndTicket_4 :
    ((ordered 1 .opened).peerAt 1).standing = .inStanding ∧ ((ordered 1 .opened).peerAt 1).role ≠ some .car ∧
    (record .opened).phase.beforeGone = true ∧
    guideStanding.common.lineMinute ≤ (ordered 1 .opened).peer.lineMinute ∧
    standingCloses (ordered 1 .opened) guideStanding = some (some .ripe, true, false) ∧
    standingCloses (ordered 1 .gone) guideStanding = some (some .ripe, false, true) ∧
    standingCloses (pushing .gone) (secStanding 0 5) = some (some .empty, false, false) := by decide +kernel

/-- The second car of a kind in standing sets CONFLICT; a first one does not (R81; log 29). -/
theorem witness_StandingUpdatesPeerMinuteAndTicket_5 :
    (secondCar .pusher).handsOn 8 (.standing pusherStanding) = true ∧ (secondCar .pusher).kindCount .pusher = 1 ∧
    (after (exec (.standingFrame 8 pusherStanding) (secondCar .pusher))).map (fun t => (t.kindCount .pusher, t.flag .conflict))
      = some (2, true) ∧
    (after (exec (.standingFrame 8 pusherStanding) (secondCar .guide))).map (fun t => (t.kindCount .pusher, t.flag .conflict))
      = some (1, false) := by decide +kernel

/-- An unknown claimant is filled from the first list that names the oven, in standing or not, and by no other (R49;
log 21). -/
theorem witness_StandingUpdatesPeerMinuteAndTicket_6 :
    let unknown (oven : Nat) : State := { sec with
      ticket := { sec.ticket with record := some { record .opened with oven := oven, claimant := none } } }
    let claimantAfter (src oven : Nat) :=
      (after (exec (.standingFrame src (secStanding 0 0)) (unknown oven))).map fun t => t.ticket.record.map (·.claimant)
    (unknown 1).handsOn 8 (.standing (secStanding 0 0)) = true ∧ (unknown 1).clashes (secStanding 0 0) = false ∧
    (unknown 1).ticket.context = none ∧ 1 ∈ (secStanding 0 0).part.ovenMap ∧ 2 ∉ (secStanding 0 0).part.ovenMap ∧
    ticketLater (secStanding 0 0).common.lastDone (unknown 1).ticket.lastDone = false ∧
    claimantAfter 8 1 = some (some (some 8)) ∧ claimantAfter 2 1 = some (some (some 2)) ∧
    claimantAfter 1 2 = some (some none) := by decide +kernel

/-- From GONE on a STANDING still sets the served-ticket mark, and a car that no longer shows the ticket is not
abandoned (R97, R100). -/
theorem witness_StandingUpdatesPeerMinuteAndTicket_7 :
    let shown (served : Option Ticket) : Standing := ⟨⟨0, 0, 0, 0, none, false, 0, 5⟩, .ofCar .guide (some 2) .idle none served⟩
    let gone (marks : List Nat) : State := { claimant .gone with
      ticket := { (claimant .gone).ticket with
        record := some { record .gone with assents := ⟨true, true, true⟩ }
        context := some { Context.idle with served := ⟨[], marks, []⟩ } } }
    let leaves (s : State) (b : Standing) := (after (exec (.standingFrame 5 b) s)).map fun t =>
      (t.ticket.context.map (·.served.guide), t.line.q0.length)
    (gone []).handsOn 5 (.standing (shown (some 1))) = true ∧ (gone []).clashes (shown (some 1)) = false ∧
    (gone []).line.state ≠ .joining ∧ (gone []).peerAt 5 = peer .car (some .guide) ∧
    (gone [5]).handsOn 5 (.standing (secStanding 0 0)) = true ∧ (record .gone).phase.beforeGone = false ∧
    leaves (gone []) (shown (some 1)) = some (some [5], 0) ∧ leaves (gone [5]) (shown none) = some (some [5], 0) ∧
    leaves (gone [5]) (secStanding 0 0) = some (some [5], 0) := by decide +kernel

theorem witness_SilenceExpiryLapsesThePeer :
    let s : State := { sec with ticket := { sec.ticket with record := some { record .opened with claimant := some 1 } } }
    let late : State := { sec with ticket := { sec.ticket with record := some { record .gone with claimant := some 1 } } }
    s.peer.table.length = 31 ∧ s.onLine = true ∧ (s.peerAt 1).silence.isSome = true ∧
    (s.peerAt 1).standing = .inStanding ∧ (s.peerAt 1).role = some .ovens ∧ (s.peerAt 8).standing ≠ .inStanding ∧
    (s.peerAt 8).silence.isSome = true ∧ (s.peerAt 31).silence = none ∧
    late.ticket.record.map (·.phase.beforeGone) = some false ∧
    (after (exec (.silenceTimerExpiry 1) s)).map (fun t => (t.ticket.record, t.line.counters.lapses)) = some (none, 1) := by
  decide +kernel

/-- The oven of a record whose claimant goes silent before GONE is RIPE, with the claim backoff (R71, R96). -/
theorem witness_SilenceExpiryLapsesThePeer_3 :
    let s := ordered 1 .opened
    s.slotOf 36 = some 0 ∧ s.sched.ovens[0]? = some (oven 36 .ripe 0 1200) ∧ s.resetRecord.role = .ovens ∧
    (after (exec (.silenceTimerExpiry 1) s)).map (fun t =>
      (t.sched.ovens[0]?.map (·.state), t.ticket.backoff, t.ticket.context.isSome)) = some (some .ripe, some 30000, false) := by
  decide +kernel

theorem witness_SilenceExpiryLapsesThePeer_2 :
    let s : State := { claimant .assented with
      ticket := { (claimant .assented).ticket with record := some { record .assented with assents := ⟨true, false, true⟩ } } }
    s.ticket.context.isSome = true ∧ (s.peerAt 3).silence.isSome = true ∧ (s.peerAt 3).role = some .car ∧
    (s.peerAt 3).kind = some .pusher ∧ (s.peerAt 5).kind = some .guide ∧
    (KindSet.has ⟨true, false, true⟩ .guide) = false ∧ (record .assented).claimant ≠ some 3 ∧ s.line.q0.length < 4 ∧
    (after (exec (.silenceTimerExpiry 3) s)).map (fun t => t.line.q0.map (·.frame)) = some [.abandon 1 36 .carLost] ∧
    (after (exec (.silenceTimerExpiry 5) s)).map (fun t => t.line.q0.map (·.frame)) = some [] := by decide +kernel

theorem witness_StandingPeriodAndClaimTimersExpire :
    sec.line.state = .active ∧ sec.peer.standingTimer.isSome = true ∧ State.reset.line.state ≠ .active ∧
    sec.ticket.record = none ∧ (claimant .gone).ticket.record = some (record .gone) ∧ sec.resetRecord.role = .ovens ∧
    (car .quench).resetRecord.role = .car := by decide +kernel

theorem witness_JoinWindowEndsTheJoin :
    let choice (last : Ticket) : JoinChoice := ⟨⟨50, last, last + 1, 120, some .gone, false, 300, 5⟩, .ovens⟩
    let join (c : Option JoinChoice) : State := { inState .joining sec with
      peer := { sec.peer with joinTimer := some 1, startJoin := true, choice := c } }
    let homing : State := { inState .joining (car .guide) with
      car := CarUnit.reset, peer := { (car .guide).peer with joinTimer := some 1 } }
    sec.line.state ≠ .joining ∧ (join none).line.state = .joining ∧ (join none).peer.joinTimer.isSome = true ∧
    (join none).peer.heard = false ∧ ticketLater (choice 5).common.lastDone sec.ticket.lastDone = true ∧
    (choice 0).common.lastDone = sec.ticket.lastDone ∧
    ticketLater (choice 65535).common.lastDone sec.ticket.lastDone = false ∧ homing.peer.startJoin = false ∧
    homing.resetRecord.role = .car ∧ homing.car.state = .unhomed ∧ homing.car.served = none ∧
    (after (exec .joinWindowExpiry (join (some (choice 5))))).map
      (fun t => (t.ticket.lastDone, t.sched.cursor, t.ticket.record.map (·.oven))) = some (5, 300, some 120) := by
  decide +kernel

/-- Records adopted for an own oven, for a peer's oven and for one that no map names (R49, R117). -/
theorem witness_JoinWindowEndsTheJoin_3 :
    let choice (oven : Nat) (p : Phase) : JoinChoice := ⟨⟨50, 0, 1, oven, some p, false, 300, 5⟩, .ovens⟩
    let join (oven : Nat) (p : Phase) : State := { inState .joining sec with
      peer := { sec.peer with
        joinTimer := some 1, startJoin := true, choice := some (choice oven p)
        table := (sec.peer.table.set 4 { peer .ovens none with map := [120] }).set 0 { peer .ovens none with map := [120] } } }
    let adopted (oven : Nat) (p : Phase) := after (exec .joinWindowExpiry (join oven p))
    (join 36 .opened).ownsOven 36 = true ∧ (join 120 .opened).ownsOven 120 = false ∧
    (join 120 .opened).peer.table.length = 31 ∧ (120 ∈ ((join 120 .opened).peerAt 1).map) ∧
    (adopted 36 .opened).map (fun t => (t.ticket.record.map (·.claimant), t.line.q0.map (·.frame)))
      = some (some (some 9), [.abandon 1 36 .ownerRestart]) ∧
    (adopted 36 .opened).map (fun t => t.sched.ovens.map (·.state)) = some [.pushing, .empty, .coking] ∧
    (adopted 36 .gone).map (fun t => t.line.q0) = some [] ∧
    (adopted 120 .opened).map (fun t => t.ticket.record.map (·.claimant)) = some (some (some 1)) ∧
    (adopted 119 .opened).map (fun t => t.ticket.record.map (·.claimant)) = some (some none) := by decide +kernel

/-- The counts of a restored oven catch up with the line minute (R50). -/
theorem witness_JoinWindowEndsTheJoin_2 :
    let saved (minute : Nat) (o : Oven) : Oven := { o with savedMinute := minute }
    let s : State := { inState .joining sec with
      peer := { sec.peer with joinTimer := some 1, startJoin := true, lineMinute := 100 }
      sched := { sec.sched with ovens :=
        [saved 40 (oven 36 .ripe 0 1200), oven 37 .empty 0 0, saved 99 (oven 38 .coking 1 1199)] } }
    s.ticket.record = none ∧ s.ticket.claim = none ∧ s.peer.choice = none ∧ s.peer.startJoin = true ∧
    s.sched.ovens[2]? = some (saved 99 (oven 38 .coking 1 1199)) ∧ s.peer.heard = false ∧ s.line.state = .joining ∧
    (after (exec .joinWindowExpiry s)).map (fun t => t.sched.ovens.map fun o => (o.state, o.gross, o.suspect))
      = some [(.ripe, 1260, true), (.empty, 0, false), (.ripe, 1200, true)] := by decide +kernel

/-- A start join with a later last-done closes the record held as done (R49, R70, R85). -/
theorem witness_JoinWindowEndsTheJoin_4 :
    let join (oven : Nat) := joining oven 5 .gone (pushing .gone)
    (join 37).ticket.record = some (record .gone) ∧ (join 37).slotOf 36 = some 0 ∧
    ticketLater 5 (join 37).ticket.lastDone = true ∧
    (after (exec .joinWindowExpiry (join 37))).map (fun t => (t.sched.ovens.map (·.state), t.flag .ticketAbandoned))
      = some ([.empty, .pushing, .coking], false) ∧
    (after (exec .joinWindowExpiry (join 37))).map (fun t => t.ticket.pacing) = some (some 60000) ∧
    (after (exec .joinWindowExpiry (join 36))).map (fun t => t.sched.ovens.map (·.state))
      = some [.pushing, .empty, .coking] := by decide +kernel

theorem witness_LineMinuteMovesTheClocks :
    let ending (m : Nat) : State := { sec with peer := { sec.peer with lineMinute := m } }
    State.reset.running = false ∧ sec.running = true ∧ (ending 16777215).peer.lineMinute = 16777215 ∧
    (ending 16777214).peer.lineMinute < 16777215 ∧ ((ending 9).peer.lineMinute + 1) % 10 = 0 ∧
    sec.peer.startJoin = false ∧ sec.sched.ovens[2]? = some (oven 38 .coking 1 1199) ∧
    (after (exec .lineMinuteAdvance (ending 9))).map (fun t => (t.peer.lineMinute, t.flag .ripe)) = some (10, true) := by
  decide +kernel

theorem witness_StandingPeriodAndClaimTimersExpire_2 :
    let waiting : State := { sec with ticket := { sec.ticket with pacing := some 1, backoff := some 1 } }
    let c : Context := { Context.idle with assent := .running 5000, spot := .running 5000, doorOff := .running 5000 }
    waiting.ticket.pacing.isSome = true ∧ waiting.ticket.backoff.isSome = true ∧ sec.ticket.pacing = none ∧
    sec.ticket.backoff = none ∧ sec.ticket.context = none ∧ (claimant .claimed).ticket.context = some c ∧
    c.assent.isRunning = true ∧ c.spot.isRunning = true ∧ c.doorOff.isRunning = true ∧
    Context.idle.assent.isRunning = false ∧ (record .claimed).abandonOffered = false ∧
    (record .opened).phase.beforeGone = true ∧ (record .gone).phase.beforeGone = false ∧
    (after (exec .spotLimitExpiry (claimant .opened))).map (fun t => t.line.q0.map (·.frame))
      = some [.abandon 1 36 .notSpotted] := by decide +kernel

theorem witness_InputsPassTheRejector :
    let moving : State := { sec with panel := { sec.panel with stopn := ⟨false, some 3⟩ } }
    lineHasPin (.latch 9 .pusherSide) = false ∧ sec.otherRole .marker = true ∧ lineHasPin (.leak 3 .cokeSide) = true ∧
    sec.otherRole (.leak 3 .cokeSide) = false ∧ sec.rejected (.leak 3 .cokeSide) = some ⟨false, none⟩ ∧
    sec.rejected (.leak 8 .cokeSide) = none ∧ moving.rejected .stopn = some ⟨false, some 3⟩ ∧
    sec.lineLevel (.leak 3 .cokeSide) = false ∧
    (after (exec (.fieldInputChange (.leak 3 .cokeSide) true) sec)).map (fun t => t.rejected (.leak 3 .cokeSide))
      = some (some ⟨false, some 5⟩) := by decide +kernel

theorem witness_DoorsFollowInputsSwitchesAndTimers :
    let opening : Door := { door .sealed with latch := ⟨true, some 1⟩, leakCount := 3 }
    let closing : Door := { door .off with latch := ⟨false, some 1⟩ }
    let leaking : Door := { door .sealed with leak := ⟨false, some 1⟩, leakCount := 1023 }
    let latched : State := { doorPair closing (door .off) with pins := { sec.pins with inputs := 1#48 } }
    let ordered : State := { latched with ticket := { sec.ticket with record := some (record .assented) } }
    let pulsing : State := { doorPair leaking (door .off) with pins := { sec.pins with inputs := 16#48 } }
    sec.sectionRuns = true ∧ sec.slotIndex 1 = some 0 ∧ sec.slotIndex 3 = some 2 ∧
    (doorPair opening (door .off)).door[0]? = some ⟨opening, door .off⟩ ∧
    (doorPair opening (door .off)).lineLevel (.latch 1 .pusherSide) = false ∧
    latched.lineLevel (.latch 1 .pusherSide) = true ∧ latched.orderStands 0 = false ∧ ordered.orderStands 0 = true ∧
    latched.sealLevel 1 .pusherSide = false ∧ pulsing.lineLevel (.leak 1 .pusherSide) = true ∧
    pulsing.cfg.leakFalling = false ∧
    (after (exec (.rejectTimerExpiry (.leak 1 .pusherSide)) pulsing)).map (fun t => t.door.map (·.p.leakCount))
      = some [1023, 0, 0] := by decide +kernel

theorem witness_CarAndStopInputsAreAccepted :
    let move (p : Nat) (d : Direction) (target : Nat) : State := { car .guide with
      pins := { State.reset.pins with inputs := 1#48 }
      car := { CarUnit.reset with
        position := some p, state := .moving, queue := [⟨.spot, some target, none⟩], inProgress := true, direction := d
        markerLimit := some 9, marker := ⟨false, some 1⟩ } }
    let homing : State := { car .guide with
      pins := { State.reset.pins with inputs := 2#48 }
      car := { CarUnit.reset with state := .moving, queue := [⟨.home, none, none⟩], home := ⟨false, some 1⟩ } }
    let pin : State := { sec with
      pins := { sec.pins with stopnAsserted := true }, panel := { sec.panel with stopn := ⟨false, some 1⟩ } }
    (move 254 .fwd 255).carRuns = true ∧ (move 254 .fwd 255).car.marker = ⟨false, some 1⟩ ∧
    (move 254 .fwd 255).lineLevel .marker = true ∧ (move 254 .fwd 255).car.homing = false ∧
    (move 254 .fwd 255).car.queue.head?.bind (·.target) = some 255 ∧
    (move 0 .rev 0).car.position = some 0 ∧ (move 255 .fwd 9).car.position = some 255 ∧
    (move 5 .rev 1).car.queue.head?.bind (·.target) ≠ some 4 ∧ homing.car.homing = true ∧
    homing.lineLevel .home = true ∧ pin.running = true ∧ pin.lineLevel .stopn = true ∧ pin.line.q0.length < 4 ∧
    (after (exec (.rejectTimerExpiry .marker) (move 254 .fwd 255))).map (fun t => (t.car.position, t.car.inProgress))
      = some (some 255, true) ∧
    (after (exec (.rejectTimerExpiry .marker) (move 255 .fwd 9))).map (fun t => (t.car.position, t.car.state))
      = some (none, .fault) := by decide +kernel

theorem witness_DoorsFollowInputsSwitchesAndTimers_2 :
    let inflating : Door := { door .inflating with inflate := some 1 }
    let reseating : Door := { door .reseating with deflate := some 1 }
    let spent : Door := { door .sealed with attempts := 1, window := some 1 }
    sec.sectionRuns = true ∧ between 1 8 1 = true ∧ sec.slotIndex 1 = some 0 ∧
    (doorPair inflating (door .off)).sealLevel 1 .pusherSide ≠ true ∧
    (doorPair inflating (door .off)).door[0]? = some ⟨inflating, door .off⟩ ∧ inflating.inflate.isSome = true ∧
    reseating.deflate.isSome = true ∧ (door .sealed).attempts < sec.cfg.reseatLimit ∧
    sec.cfg.reseatLimit ≤ spent.attempts ∧ { sec with pins := { sec.pins with inputs := 4#48 } }.sealLevel 1 .pusherSide = true ∧
    (after (exec (.inflateLimitExpiry 1 .pusherSide) (doorPair inflating (door .off)))).map (fun t => t.flag .doorFault)
      = some true := by decide +kernel

theorem witness_DoorsFollowInputsSwitchesAndTimers_3 :
    let at_ (st : DoorState) (count clean attempts : Nat) : Door :=
      { door st with leakCount := count, clean := clean, attempts := attempts, window := some 1 }
    sec.slotIndex 1 = some 0 ∧ (doorPair (at_ .sealed 5 0 0) (door .off)).door[0]? = some ⟨at_ .sealed 5 0 0, door .off⟩ ∧
    (at_ .sealed 5 0 0).leakCount ≤ sec.cfg.leakThreshold ∧ sec.cfg.leakThreshold < (at_ .sealed 6 0 0).leakCount ∧
    (at_ .leaking 0 1 0).clean + 1 = sec.cfg.cleanCount ∧ (at_ .leaking 0 0 0).clean + 1 ≠ sec.cfg.cleanCount ∧
    (at_ .leaking 6 0 0).attempts < sec.cfg.reseatLimit ∧ sec.cfg.reseatLimit ≤ (at_ .leaking 6 0 1).attempts ∧
    (after (exec (.leakWindowExpiry 1 .pusherSide) (doorPair (at_ .sealed 6 0 0) (door .off)))).map
      (fun t => t.flag .doorLeak) = some true := by decide +kernel

theorem witness_ConversionsAndPressureTimers :
    let s : State := { sec with press := { sec.press with main := ⟨some 0, some 1, false, false⟩ } }
    sec.sectionRuns = true ∧ sec.press.scanTimer.isSome = true ∧ sec.press.converting = some 0 ∧
    sec.press.channels[0]? = some Channel.reset ∧ State.reset.sectionRuns = false ∧ 0 ≤ sec.cfg.mainHysteresis ∧
    sec.press.main.captured = none ∧ s.press.main.captured = some 0 ∧ s.press.main.stableTimer.isSome = true ∧
    (532 : Int) - 512 - 0 ≤ s.cfg.mainHysteresis ∧ s.cfg.mainHysteresis < (533 : Int) - 512 - 0 ∧
    (after (exec (.conversionComplete 532) s)).map (·.press.main.captured) = some (some 0) ∧
    (after (exec (.conversionComplete 533) s)).map (·.press.main.captured) = some (some 21) := by decide +kernel

theorem witness_ConversionsAndPressureTimers_2 :
    let s : State := { sec with
      press := { sec.press with entries := [⟨37, 9, 0⟩] }
      sched := { sec.sched with ovens := [oven 36 .ripe 0 1200, oven 37 .charging 1200 0, oven 38 .coking 1 1199] } }
    sec.sectionRuns = true ∧ sec.slotIndex 3 = some 2 ∧ sec.slotIndex 4 = none ∧ sec.slotIndex 0 = none ∧
    sec.press.dampers[2]? = some Damper.reset ∧ sec.press.boundary.isSome = true ∧ State.reset.press.boundary = none ∧
    s.ownEntry 37 = true ∧ (s.press.entries.map (·.oven)).Nodup ∧ s.slotOf 37 = some 1 ∧ sec.ownEntry 37 = false ∧
    sec.listed 37 = false ∧ State.reset.sectionRuns = false ∧
    (after (exec (.aspirationExpiry 37) s)).map (fun t => t.flag .aspirationExpired) = some true := by decide +kernel

theorem witness_DampersFollowTheirOvensAndStep :
    let main (b : Bool) : MainRecord := ⟨some 0, none, true, b⟩
    let at_ (d : Damper) (low : Bool) : State := { sec with
      press := { sec.press with converting := some 1, dampers := [d, Damper.reset, Damper.reset], main := main low } }
    let d (n : Nat) : Damper := ⟨.normal, n, 0, none⟩
    let steps (n : Nat) (raw : Raw) (low : Bool) : Option (Option Nat) :=
      (after (exec (.conversionComplete raw) (at_ (d n) low))).map fun t => t.press.dampers[0]?.map (·.commanded)
    sec.sectionRuns = true ∧ sec.sched.ovens[0]? = some (oven 36 .ripe 0 1200) ∧ sec.press.dampers[0]? = some Damper.reset ∧
    cfg.damperFloor < cfg.damperCeiling ∧ 0 < cfg.deadband ∧ (at_ (d 9) false).press.channels[1]? = some Channel.reset ∧
    steps 47 585 false = some (some 47) ∧ steps 47 586 false = some (some 48) ∧ steps 48 586 false = some (some 48) ∧
    steps 47 586 true = some (some 47) ∧ steps 9 564 true = some (some 8) ∧ steps 8 564 true = some (some 8) ∧
    steps 9 565 true = some (some 9) ∧
    (finish sec (at_ ⟨.closed, 0, 0, none⟩ false)).press.dampers[0]? = some ⟨.normal, 8, 0, some 5000⟩ ∧
    (finish sec (at_ ⟨.aspirate, 63, 63, none⟩ false)).press.dampers[0]? = some ⟨.normal, 48, 63, some 5000⟩ ∧
    (finish sec { at_ (d 9) false with ticket := (claimant .assented).ticket }).press.dampers[0]? = some ⟨.closed, 0, 0, none⟩ := by
  decide +kernel

theorem witness_ActionsAndQuenchTimersEnd :
    let acting (a : Action) : State := { serving .pusher .opened with
      car := { (serving .pusher .opened).car with state := .acting, action := some a, actionLimit := some 1 } }
    let cycle : State := { car .quench with
      car := { CarUnit.reset with
        position := some 240, state := .acting, quench := .draining, hotTravel := some 1, quenchTimer := some 1
        drainTimer := some 1 } }
    (acting .pull).carRuns = true ∧ (acting .pull).car.action = some .pull ∧
    (acting .pull).servedRecord = some (record .opened) ∧ (car .guide).car.action = none ∧ cycle.carRuns = true ∧
    cycle.car.hotTravel.isSome = true ∧ cycle.car.quenchTimer.isSome = true ∧ cycle.car.drainTimer.isSome = true ∧
    cycle.car.queue.length < 4 ∧ cycle.car.inProgress = false ∧ (car .guide).car.drainTimer = none ∧
    (after (exec .actDone (acting .pull))).map (fun t => t.line.q1.map (·.frame)) = some [.ready 1 36 .pusher] ∧
    (after (exec .drainTimerExpiry cycle)).map (fun t => (t.car.state, t.car.queue.map (·.purpose)))
      = some (.moving, [.wharf]) := by decide +kernel

/-- A WHARF entry that meets a full queue: the tail SPOT of the served ticket goes and is declined (R123, R146). -/
theorem witness_ActionsAndQuenchTimersEnd_2 :
    let tower : Move := ⟨.tower, some 240, none⟩
    let full : State := { serving .quench .assented with
      car := { (serving .quench .assented).car with
        position := some 240, state := .acting, quench := .draining, drainTimer := some 1
        queue := [tower, tower, tower, ⟨.spot, some 4, some 1⟩] } }
    full.carRuns = true ∧ full.car.drainTimer.isSome = true ∧ full.servedRecord = some (record .assented) ∧
    (record .assented).phase.beforeGone = true ∧ full.onLine = true ∧ full.line.q1.length < 8 ∧
    (after (exec .drainTimerExpiry full)).map (fun t => (t.car.queue.map (·.purpose), t.line.q1.map (·.frame)))
      = some ([.wharf, .tower, .tower, .tower], [.decline 1 36 .quench .queueFull]) := by decide +kernel

theorem witness_FailuresStallOrFaultTheCar :
    let acting (a : Action) (p : Phase) : State := { serving .pusher p with
      car := { (serving .pusher p).car with state := .acting, action := some a, actionLimit := some 1 } }
    let moving : State := { car .guide with car := { (car .guide).car with state := .moving, markerLimit := some 1 } }
    (acting .ram .gone).carRuns = true ∧ (acting .ram .gone).car.action = some .ram ∧
    (acting .ram .gone).car.actionLimit.isSome = true ∧ (acting .ram .gone).car.stallHeld = false ∧
    (acting .pull .opened).car.action = some .pull ∧ (acting .pull .opened).servedRecord = some (record .opened) ∧
    (record .opened).phase.beforeGone = true ∧ (acting .pull .opened).car.faultDeclined = false ∧
    moving.car.markerLimit.isSome = true ∧ moving.servedRecord = none ∧ (car .guide).car.action = none ∧
    (car .guide).car.actionLimit = none ∧ (car .guide).car.markerLimit = none ∧
    (after (exec .actFault (acting .ram .gone))).map (fun t => (t.car.stallHeld, t.line.q0.map (·.frame)))
      = some (true, [.stall 1 36]) ∧
    (after (exec .actionLimitExpiry (acting .pull .opened))).map (fun t => (t.car.state, t.line.q1.map (·.frame)))
      = some (.fault, [.decline 1 36 .pusher .fault]) := by decide +kernel

/-- An action that runs out after its record closed offers nothing for the next one (R132, R135; log 24). -/
theorem witness_FailuresStallOrFaultTheCar_2 :
    let late (a : Action) : State := { serving .pusher .opened with
      car := { (serving .pusher .opened).car with
        state := .acting, action := some a, actionLimit := some 1, actionServes := false } }
    (late .pull).actionRecord = none ∧ (late .ram).actionRecord = none ∧
    (serving .pusher .opened).actionRecord = some (record .opened) ∧
    (after (exec .actDone (late .pull))).map (fun t => (t.car.doorHeld, t.line.q1)) = some (true, []) ∧
    (after (exec .actFault (late .ram))).map (fun t => (t.car.stallHeld, t.line.q0)) = some (true, []) := by decide +kernel

theorem witness_MovesStartAndArrive :
    let move (p : Purpose) (x : Option Nat) : Move := ⟨p, x, none⟩
    let queued (k : CarKind) (m : Move) : State := { car k with car := { (car k).car with queue := [m] } }
    let homing (accepted : Bool) : State := { queued .guide (move .home none) with
      car := { (queued .guide (move .home none)).car with
        state := .homing, position := none, home := ⟨accepted, none⟩ } }
    let moving (k : CarKind) (m : Move) (p : Nat) (phase : QuenchPhase := .empty) : State := { car k with
      pins := { State.reset.pins with inputs := 1#48 }
      car := { CarUnit.reset with
        position := some p, state := .moving, queue := [m], inProgress := true, direction := .fwd, quench := phase
        markerLimit := some 9, marker := ⟨false, some 1⟩ } }
    let stopped : State := { moving .guide (move .spot (some 9)) 4 with
      ticket := { TicketUnit.reset with stopFlag := true } }
    let rejected (s : State) : Option State := after (exec (.rejectTimerExpiry .marker) s)
    (queued .guide (move .spot (some 3))).carRuns = true ∧ (car .guide).car.position = some 2 ∧
    (car .guide).car.action = none ∧ (car .guide).car.doorHeld = false ∧ (homing false).car.state = .homing ∧
    (finish sec (queued .guide (move .spot (some 3)))).car.direction = .fwd ∧
    (finish sec (queued .guide (move .spot (some 1)))).car.direction = .rev ∧
    (finish sec (queued .guide (move .park (some 2)))).car.state = .idle ∧
    (finish sec (homing false)).car.state = .moving ∧ (finish sec (homing true)).car.position = some 0 ∧
    (moving .quench (move .tower (some 240)) 239 .loaded).car.marker = ⟨false, some 1⟩ ∧
    (moving .quench (move .tower (some 240)) 239 .loaded).lineLevel .marker = true ∧
    (moving .guide (move .spot (some 9)) 4).handsOn 1 (.stop .panel) = true ∧ stopped.handsOn 1 .resume = true ∧
    (rejected (moving .quench (move .tower (some 240)) 239 .loaded)).map (·.car.quench) = some .quenching ∧
    (rejected (moving .quench (move .wharf (some 250)) 249 .draining)).map (·.car.quench) = some .discharging ∧
    (after (exec (.stopFrame 1 .panel) (moving .guide (move .spot (some 9)) 4))).map (fun t => (t.fwd, t.car.markerLimit))
      = some (false, none) ∧
    (after (exec (.resumeFrame 1) stopped)).map (fun t => (t.fwd, t.car.markerLimit)) = some (true, some 20000) := by
  decide +kernel

theorem witness_ActionsStartWhenJudged :
    let held (s : State) : State := { s with car := { s.car with doorHeld := true } }
    let pull := serving .guide .opened
    let ram := held (serving .pusher .gone)
    let free : State := { held (car .guide) with car := { (held (car .guide)).car with state := .spotted } }
    let wharf : State := { car .quench with car := { (car .quench).car with state := .acting, quench := .discharging } }
    let starts (s : State) : Option Action × Nat := ((finish sec s).car.action, (finish sec s).actCode)
    pull.carRuns = true ∧ pull.car.action = none ∧ pull.ticket.stopFlag = false ∧ pull.line.state ≠ .haltedDuplicate ∧
    pull.car.state = .spotted ∧ pull.servedRecord = some (record .opened) ∧ pull.car.doorHeld = false ∧
    ram.servedRecord = some (record .gone) ∧ ram.cfg.carKind = .pusher ∧ free.car.served = none ∧
    sec.ticket.record.map (·.phase) ≠ ram.ticket.record.map (·.phase) ∧ wharf.cfg.carKind = .quench ∧
    starts pull = (some .pull, 0) ∧ starts ram = (some .ram, 1) ∧ starts free = (some .replace, 2) ∧
    starts wharf = (some .discharge, 3) ∧ (finish ram ram).car.action = none := by decide +kernel

theorem witness_PushFramesReachTheCar :
    let s (k : CarKind) (p : Phase) : State := { serving k p with car := { (serving k p).car with quench := .empty } }
    let apart : State := { serving .guide .opened with car := { (serving .guide .opened).car with served := none } }
    let receiving : State := { serving .quench .gone with car := { (serving .quench .gone).car with quench := .receiving } }
    let go (p : Phase) : State := { s .quench p with peer := { (car .quench).peer with table := peers.set 8 (peer .ovens none) } }
    (s .guide .gone).resetRecord.role = .car ∧ (s .guide .gone).handsOn 7 (.finished 1 36) = true ∧
    (s .guide .opened).handsOn 1 (.abandon 1 36 .declined) = true ∧ apart.car.served ≠ some 1 ∧
    (go .gone).handsOn 9 (.go 1 36) = true ∧ (go .gone).car.served = some 1 ∧ (record .gone).claimant = some 9 ∧
    (after (exec (.abandonFrame 1 1 36 .declined) (s .guide .opened))).map (fun t => (t.car.served, t.car.state, t.car.queue))
      = some (none, .moving, [⟨.park, some 2, none⟩]) ∧
    (after (exec (.abandonFrame 1 1 36 .declined) (s .quench .opened))).map (fun t => (t.car.served, t.car.quench))
      = some (none, .empty) ∧
    receiving.car.quench = .receiving ∧
    (after (exec (.goFrame 9 1 36) (go .opened))).map (·.car.quench) = some .receiving ∧
    (after (exec (.goFrame 9 1 36) (go .gone))).map (·.car.quench) = some .receiving := by decide +kernel

/-- A stall that a pusher adopts at the end of a start join (R136). -/
theorem witness_PushFramesReachTheCar_2 :
    let join (k : CarKind) (p : Phase) : State := { inState .joining (car k) with
      car := CarUnit.reset
      peer := { (car k).peer with
        joinTimer := some 1, startJoin := true, choice := some ⟨⟨50, 5, 6, 120, some p, false, 300, 5⟩, .ovens⟩ } }
    let ends (s : State) : Option (Option Ticket × CarState × List Frame) :=
      (after (exec .joinWindowExpiry s)).map fun t => (t.car.served, t.car.state, t.line.q0.map (·.frame))
    (join .pusher .gone).resetRecord.role = .car ∧ (join .pusher .gone).line.state = .joining ∧
    (join .pusher .gone).car.state = .unhomed ∧ (join .pusher .gone).ticket.record = none ∧
    ticketLater 5 (join .pusher .gone).ticket.lastDone = true ∧ (join .pusher .gone).line.q0.length < 4 ∧
    ends (join .pusher .gone) = some (some 6, .unhomed, [.stall 6 120]) ∧
    ends (join .pusher .stuck) = some (some 6, .unhomed, []) ∧
    ends (join .guide .gone) = some (none, .moving, []) ∧
    ends (join .pusher .opened) = some (none, .moving, []) := by decide +kernel

theorem witness_OutputsFollowTheUnits :
    let pair : DoorPair := ⟨door .leaking, door .reseating⟩
    let s : State := { doorPair (door .leaking) (door .reseating) with
      press := { sec.press with dampers := [⟨.aspirate, 63, 17, none⟩, Damper.reset, Damper.reset], driven := true } }
    let drive (p : Nat) (d : Direction) : State := { car .quench with
      car := { CarUnit.reset with
        position := some p, state := .moving, queue := [⟨.spot, some 9, none⟩], inProgress := true, direction := d } }
    let acts (a : Action) : State := { car .quench with
      car := { (car .quench).car with state := .acting, action := some a, quench := .quenching } }
    s.sectionRuns = true ∧ s.door[0]? = some pair ∧ (List.range 3).map s.output = [true, false, true] ∧
    (List.range 5).map s.positioner = [none, some 17, some 0, some 0, none] ∧ sec.press.driven = false ∧
    (drive 7 .fwd).carRuns = true ∧ (List.range 8).map (drive 7 .fwd).output = (List.replicate 8 false).set 0 true ∧
    (List.range 3).map (drive 10 .rev).output = [false, true, true] ∧
    (List.range 7).map (acts .discharge).output = [false, false, false, true, true, true, true] ∧
    State.reset.running = false ∧ sec.line.attempt = none ∧ (attempting ⟨.aspirate 37, 0, false⟩).lineEnable = true := by
  decide +kernel

theorem witness_ReadbackCompletesOrRewrites :
    let w : PageWrite := ⟨14, List.replicate 16 7, false, [], 0⟩
    let writing (w : PageWrite) (q : List RecordId) : State := { sec with store := { sec.store with write := some w, queue := q } }
    sec.store.write = none ∧ (writing w []).store.write = some w ∧ w.rest = [] ∧ w.rewrite = false ∧
    { w with rewrite := true }.rewrite = true ∧ { w with rest := [(5, [])] }.rest = (5, []) :: [] ∧
    (writing w [.station]).store.queue = .station :: [] ∧
    (after (exec (.storeReadback true) (writing w []))).map (fun t => (Memory.read t.store.array 224, t.store.write))
      = some (7, none) ∧
    (after (exec (.storeReadback false) (writing { w with rewrite := true } []))).map (fun t => t.flag .storeFault)
      = some true := by decide +kernel

theorem witness_RequestsAreJudgedInOrder :
    let low : State := { State.reset with pins := { State.reset.pins with rstnLow := true } }
    (Instr.hold 36).asked = some (.only .ovens, false, true) ∧ (Instr.unknownRequest 99 0).asked = some (.both, true, false) ∧
    low.line.state = .inReset ∧ low.pins.rstnLow = true ∧ State.reset.line.state = .inReset ∧
    State.reset.pins.rstnLow = false ∧ sec.line.state ≠ .inReset ∧ (inState .haltedStrap sec).line.state = .haltedStrap ∧
    (car .guide).running = true ∧ (car .guide).resetRecord.role ≠ .ovens := by decide +kernel

theorem witness_RequestsAreTakenFromTheirBytes :
    let c : Instr := .setTarget 36 1300
    let bytes : List Byte := [18, 3, 36, 5, 20]
    let open_ : State := sec.selectPanel
    let taken := (after (State.clockIn (byteBits bytes) open_)).getD sec
    let restarts : State := { sec with panel := { sec.panel with restartPending := true } }
    c.wf = true ∧ requestBytes c = some bytes ∧ takenRequest bytes = some c ∧
    open_.panel.transaction = some ⟨[], 0⟩ ∧ taken.panel.transaction = some ⟨byteBits bytes, 40⟩ ∧
    taken.panel.reply = some ⟨.accepted, []⟩ ∧ taken.sched.ovens.map (·.target) = [1300, 1200, 1200] ∧
    ((after (State.clockIn ((byteBits bytes).take 39) open_)).map fun t => t.sched.ovens.map (·.target))
      = some [1200, 1200, 1200] ∧
    ((after (taken.psckRise true)).map fun t => t.panel.transaction) = some (some ⟨byteBits bytes ++ [true], 40⟩) ∧
    sec.panel.transaction = none ∧ (Instr.configWrite 15 [1, 2]).wf = true ∧
    requestBytes (.configWrite 15 [1, 2]) = some [30, 3, 15, 1, 2] ∧
    (after restarts.deselectPanel).map (·.line.state) = some .inReset ∧ sec.panel.restartPending = false := by
  decide +kernel

/-- The bits of an answer: 0 up to byte n + 1, the answer, the length, the data, then 0 (R195). -/
theorem witness_RequestsAreTakenFromTheirBytes_2 :
    let showing (k : Nat) : State := { sec with
      panel := { sec.panel with transaction := some ⟨byteBits [5, 1, 3, 4] ++ [true], k⟩, reply := some ⟨.range, [0x81]⟩ } }
    let byte (k : Nat) := (List.range 8).map fun i => (showing (8 * k + i)).psdo
    let shows (b : Byte) : List (Option Bool) := (List.range 8).map fun i => some (b.getMsbD i)
    byte 0 = shows 0 ∧ byte 2 = shows 0 ∧ byte 3 = shows 3 ∧ byte 4 = shows 0 ∧ byte 5 = shows 1 ∧
    byte 6 = shows 0x81 ∧ byte 7 = shows 0 ∧ sec.psdo = none ∧ sec.selectPanel.psdo = some false ∧
    (showing 24).psckFall.panel.transaction = some ⟨byteBits [5, 1, 3, 4] ++ [true], 33⟩ := by decide +kernel

theorem witness_ReadsAnswerTheirData :
    sec.running = true ∧ sec.resetRecord.role = .ovens ∧ (car .quench).running = true ∧
    (car .quench).resetRecord.role = .car ∧ sec.slotOf 36 = some 0 ∧ sec.sched.ovens[0]? = some (oven 36 .ripe 0 1200) ∧
    sec.slotOf 35 = none ∧ 22 + 99 - 1 ≤ 120 ∧ 120 < 23 + 99 - 1 ∧ 0 + 96 - 1 ≤ 95 ∧ 95 < 1 + 96 - 1 ∧
    sec.store.write = none ∧
    (after (exec (.readRoster 23 99) sec)).map (fun t => t.panel.reply.map (·.answer)) = some (some .range) := by
  decide +kernel

/-- The reads a start halt serves, and a read of the block while a page of it is written (R12, R197; log 14). -/
theorem witness_ReadsAnswerTheirData_3 :
    let halt : State := { inState .haltedConfig sec with store := { sec.store with array := array } }
    let writing : State := { halt with store := { halt.store with write := some ⟨1, [], false, [], 3⟩ } }
    let reply (c : Instr) (s : State) := (after (exec c s)).bind fun t => t.panel.reply
    halt.startHalt = true ∧ halt.running = false ∧ writing.store.write = some ⟨1, [], false, [], 3⟩ ∧
    reply .readStation halt = some ⟨.accepted, [3, 2, 0, 0, 0, 0, 0, 0, 0, 0, 0, 0, 9, 255, 0, 0]⟩ ∧
    reply .readEvents halt = some ⟨.accepted, [0, 0, 1, 0, 0, 0]⟩ ∧
    reply (.configRead 8 4) halt = some ⟨.accepted, [3, 36, 37, 38]⟩ ∧ reply (.configRead 95 2) halt = some ⟨.range, []⟩ ∧
    reply (.configRead 8 4) writing = some ⟨.accepted, [3, 36, 37, 38]⟩ ∧
    (after (exec (.configRead 8 4) writing)).map (·.fresh) = some 1 := by decide +kernel

/-- The fields of reads, written out from R197 and R200. -/
theorem witness_ReadsAnswerTheirData_2 :
    let masked : State := { sec with panel := { sec.panel with mask := 0x80002#20 } }
    let data (c : Instr) (s : State) := (after (exec c s)).bind fun t => t.panel.reply.map (·.data)
    data .readEvents masked = some [0, 0, 1, 8, 0, 2] ∧ data (.readRoster 36 1) sec = some [0, 0, 3, 0, 0] ∧
    data .readStation sec = some [1, 255, 0, 0, 0, 0, 0, 0, 0, 0, 0, 0, 9, 255, 0, 0] ∧
    data (.readOven 38) sec = some [38, 2, 0, 0, 0, 4, 176, 0, 1, 4, 175, 0, 0, 0, 0] ∧
    sec.peer.table.length = 31 ∧ sec.peer.table.all (fun p => p.map.length ≤ 8) = true ∧
    sec.door[0]? = some ⟨door .off, door .off⟩ ∧ sec.press.channels.length = 4 ∧ sec.ticket.record = none ∧
    (claimant .gone).ticket.record = some (record .gone) := by decide +kernel

theorem witness_ReadCountsTakesTheCounters :
    let halt := inState .haltedConfig sec
    sec.line.state ≠ .inReset ∧ halt.startHalt = true ∧ halt.line.counters = ⟨0, 0, 0, 0, 0, 0⟩ ∧
    State.reset.running = false ∧ State.reset.line.attempt = none ∧
    (after (step State.reset)).isSome = true := by decide +kernel

theorem witness_FlagsAreAcknowledgedAndMasked :
    let seen : State := { sec with panel := { sec.panel with mask := 1#20 } }
    sec.line.state ≠ .inReset ∧ 2 ^ 20 ≤ (0x100000#24).toNat ∧ (0x0FFFFF#24).toNat < 2 ^ 20 ∧ seen.notice = true ∧
    sec.notice = false ∧ sec.pins.rstnLow = false ∧
    { sec with panel := { sec.panel with restartPending := true } }.panel.restartPending = true ∧
    State.reset.line.state = .inReset ∧ State.reset.panel.mask = 0 ∧
    (after (exec (.ackEvents 1) seen)).map (fun t => (t.flag .reset, t.notice)) = some (false, false) := by
  decide +kernel

theorem witness_StopAndResumeRequests :
    let pin : State := { sec with
      pins := { sec.pins with stopnAsserted := true }, panel := { sec.panel with stopn := ⟨false, some 1⟩ } }
    let full : State := { sec with line := { sec.line with q0 := List.replicate 4 ⟨.resume, 0, false⟩ } }
    (inState .haltedDuplicate sec).line.state = .haltedDuplicate ∧ sec.onLine = true ∧
    sec.panel.stopn.accepted = false ∧ { sec.panel with stopn := ⟨true, none⟩ }.stopn.accepted = true ∧
    sec.line.q0.length < 4 ∧ 4 ≤ full.line.q0.length ∧ pin.onLine = true ∧ pin.panel.stopn = ⟨false, some 1⟩ ∧
    pin.pins.stopnAsserted = true ∧ pin.line.q0.length < 3 ∧
    ((after (exec .resumeRequest pin)).bind fun u => after (exec (.rejectTimerExpiry .stopn) u)).map
      (fun v => v.line.q0.map (·.frame)) = some [.resume, .stop .stopPin] := by decide +kernel

/-- STOPN accepted first, both frames sent in their order, and both taken (R203). -/
theorem witness_StopAndResumeRequests_2 :
    let pin : State := { sec with
      pins := { sec.pins with stopnAsserted := true }, panel := { sec.panel with stopn := ⟨false, some 1⟩ } }
    let both : State := { sec with line := { sec.line with q0 := [⟨.resume, 0, false⟩, ⟨.stop .stopPin, 0, false⟩] } }
    let sends := fun (t : State) => exec .attemptStart t
    ((after (exec (.rejectTimerExpiry .stopn) pin)).bind fun v => after (exec .resumeRequest v)).map
      (fun u => (u.panel.reply.map (·.answer), u.line.q0.map (·.frame))) = some (some .refused, [.stop .stopPin]) ∧
    both.line.state = .active ∧ both.line.attempt = none ∧ both.line.dropped = [] ∧
    (after (andThen (sends both) fun t => andThen (exec .attemptComplete t) sends)).map (·.line.attempt)
      = some (some ⟨.stop .stopPin, false⟩) ∧ sec.handsOn 1 .resume = true ∧
    ((after (exec (.resumeFrame 1) sec)).map fun u => u.handsOn 1 (.stop .stopPin)) = some true := by decide +kernel

/-- A GO that no longer holds is withdrawn from its own class, and what stood in class 0 stays (R110, R203). -/
theorem witness_StopAndResumeRequests_3 :
    let s : State := { claimant .opened with
      pins := { sec.pins with stopnAsserted := true }, panel := { sec.panel with stopn := ⟨false, some 1⟩ }
      ticket := { (claimant .opened).ticket with context := some { Context.idle with goOffered := true } }
      door := [⟨door .sealed, door .off⟩, ⟨door .off, door .off⟩, ⟨door .off, door .off⟩]
      line := { sec.line with q0 := [⟨.resume, 0, false⟩], q1 := [⟨.go 1 36, 0, false⟩] } }
    s.queuesOk ∧ s.onLine = true ∧ s.panel.stopn = ⟨false, some 1⟩ ∧ s.pins.stopnAsserted = true ∧
    s.line.q0.length < 3 ∧
    (after (exec (.rejectTimerExpiry .stopn) s)).map (fun v => (v.line.q0.map (·.frame), v.line.q1))
      = some ([.resume, .stop .stopPin], []) := by unfold State.queuesOk; decide +kernel

theorem witness_OperatorSetsHeldTargetAndSuspect :
    let o := oven 38 .coking 1 1199
    sec.sectionRuns = true ∧ sec.slotOf 35 = none ∧ sec.slotOf 38 = some 2 ∧ sec.sched.ovens[2]? = some o ∧
    (oven 36 .claimed 0 5).state = .claimed ∧ o.state ≠ .ripe ∧ 239 < 240 ∧ 2400 < 2401 ∧ 1199 ≤ o.gross ∧ o.gross < 1200 ∧
    (oven 36 .charging 1200 0).state = .charging ∧ (oven 36 .empty 0 0).state = .empty ∧
    (after (exec (.setTarget 38 1199) sec)).map (fun t => (t.sched.ovens.map (·.remaining), t.flag .ripe))
      = some ([0, 0, 0], true) := by decide +kernel

theorem witness_OperatorMovesTheOven :
    let unknown : State := { sec with sched := { sec.sched with ovens := [oven 36 .unknown 1200 0] } }
    sec.sectionRuns = true ∧ sec.slotOf 37 = some 1 ∧ sec.sched.ovens[1]? = some (oven 37 .empty 0 0) ∧
    (oven 36 .charging 1200 0).state = .charging ∧ (oven 36 .outOfService 0 0).state = .outOfService ∧
    (oven 36 .pushing 0 0).state = .pushing ∧ (oven 37 .empty 0 0).state ≠ .unknown ∧ 1 < 2 ∧ (1200 : Nat) < 1201 ∧
    unknown.slotOf 36 = some 0 ∧ unknown.sched.ovens[0]? = some (oven 36 .unknown 1200 0) ∧
    (after (exec (.setOven 36 1 1200) unknown)).map (fun t => t.sched.ovens.map fun o => (o.state, o.gross))
      = some [(.coking, 0)] ∧
    (after (exec (.setOven 36 1 0) unknown)).map (fun t => (t.sched.ovens.map (·.state), t.flag .ripe))
      = some ([.ripe], true) := by decide +kernel

/-- Requests for an oven that is not the station's own (R72, R165). -/
theorem witness_OperatorMovesTheOven_2 :
    let reply (c : Instr) := (after (exec c sec)).map (·.panel.reply)
    sec.sectionRuns = true ∧ sec.slotOf 35 = none ∧ reply (.outOfService 35) = some (some ⟨.range, []⟩) ∧
    reply (.returnToService 35) = some (some ⟨.range, []⟩) ∧ reply (.setOven 35 0 0) = some (some ⟨.range, []⟩) ∧
    reply (.reseat 35 2) = some (some ⟨.range, []⟩) := by decide +kernel

theorem witness_ChargingAndReseatRequests :
    let sealed := door .sealed
    let ready : State := { sec with door := [⟨sealed, sealed⟩, ⟨sealed, sealed⟩, ⟨sealed, sealed⟩] }
    let charging : State := { ready with
      press := { ready.press with entries := [⟨37, 9, 5⟩] }
      sched := { ready.sched with ovens := [oven 36 .ripe 0 1200, oven 37 .charging 1200 0, oven 38 .coking 1 1199] } }
    sec.sectionRuns = true ∧ sec.slotOf 35 = none ∧ ready.slotOf 37 = some 1 ∧
    ready.sched.ovens[1]? = some (oven 37 .empty 0 0) ∧ ready.line.state = .active ∧ ready.ticket.stopFlag = false ∧
    ready.press.main.low = false ∧ ready.doorState 1 .pusherSide = .sealed ∧ ready.doorState 1 .cokeSide = .sealed ∧
    sec.doorState 1 .pusherSide ≠ .sealed ∧ charging.slotOf 37 = some 1 ∧ charging.listed 37 = true ∧
    (oven 36 .claimed 0 0).state = .claimed ∧
    (after (exec (.chargeBegin 37) ready)).map (fun t => t.line.q2.map (·.frame)) = some [.aspirate 37] ∧
    (after (exec (.chargeEnd 37) charging)).map (fun t => t.line.q2.map (·.frame)) = some [.aspirateEnd 37] := by
  decide +kernel

theorem witness_ChargingAndReseatRequests_2 :
    let s := doorPair { door .fault with attempts := 1 } (door .sealed)
    s.sectionRuns = true ∧ s.slotOf 36 = some 0 ∧ s.sched.ovens[0]? = some (oven 36 .ripe 0 1200) ∧
    s.door[0]? = some ⟨{ door .fault with attempts := 1 }, door .sealed⟩ ∧ (door .sealed).state ≠ .fault ∧ 2 < 3 ∧
    (after (exec (.reseat 36 2) s)).map (fun t => t.door.map fun d => (d.p.state, d.p.attempts, d.c.state))
      = some [(.inflating, 0, .sealed), (.off, 0, .off), (.off, 0, .off)] := by decide +kernel

theorem witness_CarRequestsClearAndResolve :
    let faulted : State := { car .quench with
      car := { (car .quench).car with state := .fault, quench := .discharging, queue := [⟨.spot, some 4, none⟩] } }
    let stalled : State := { serving .pusher .gone with
      car := { (serving .pusher .gone).car with state := .acting, action := some .ram, stallHeld := true } }
    faulted.carRuns = true ∧ faulted.line.state ≠ .haltedDuplicate ∧ faulted.car.state = .fault ∧
    faulted.car.inProgress = false ∧ (car .guide).car.state ≠ .fault ∧ 1 < 2 ∧ (car .guide).cfg.carKind ≠ .pusher ∧
    stalled.cfg.carKind = .pusher ∧ stalled.car.stallHeld = true ∧ stalled.servedRecord = some (record .gone) ∧
    stalled.car.queue.length < 4 ∧ stalled.line.q0.length < 4 ∧
    (after (exec .clearCar faulted)).map (fun t => (t.car.state, t.car.queue.map (·.purpose)))
      = some (.moving, [.home, .wharf]) ∧
    (after (exec (.resolve 1) stalled)).map (fun t => (t.car.state, t.line.q0.map (·.frame)))
      = some (.fault, [.abandon 1 36 .stalled]) := by decide +kernel

/-- HOME at a full queue, by CLEAR_CAR and after the DONE of RESOLVE at an UNHOMED pusher (R123, R128, R136, R139). -/
theorem witness_CarRequestsClearAndResolve_2 :
    let tower : Move := ⟨.tower, some 240, none⟩
    let faulted : State := { car .quench with
      car := { (car .quench).car with state := .fault, queue := List.replicate 4 tower } }
    let stalled : State := { serving .pusher .assented with
      car := { (serving .pusher .assented).car with
        state := .unhomed, position := none, stallHeld := true
        queue := [tower, tower, tower, ⟨.spot, some 4, some 1⟩] } }
    faulted.carRuns = true ∧ faulted.car.inProgress = false ∧ faulted.line.state ≠ .haltedDuplicate ∧
    stalled.car.stallHeld = true ∧ stalled.car.action ≠ some .ram ∧ stalled.onLine = true ∧ stalled.line.q1.length < 7 ∧
    stalled.servedRecord = some (record .assented) ∧ (record .assented).phase.beforeGone = true ∧
    (after (exec .clearCar faulted)).map (fun t => t.car.queue.map (·.purpose)) = some [.home, .tower, .tower, .tower] ∧
    (after (exec (.resolve 0) stalled)).map (fun t => (t.car.queue.map (·.purpose), t.line.q1.map (·.frame)))
      = some ([.home, .tower, .tower, .tower], [.finished 1 36, .decline 1 36 .pusher .queueFull]) := by decide +kernel

theorem witness_ConfigWriteAndRestart :
    let halt := inState .haltedConfig sec
    sec.line.state ≠ .inReset ∧ between 1 16 (List.replicate 16 (0 : Byte)).length = true ∧ sec.onLine = true ∧
    halt.onLine = false ∧ 80 + 16 ≤ 96 ∧ 96 < 81 + 16 ∧ halt.store.write.isNone = true ∧
    (after (exec (.configWrite 15 [1, 2]) halt)).map (fun t => t.store.write.map fun w => (w.page, w.rest.length))
      = some (some (0, 1)) := by decide +kernel

/-- The pages a CONFIG_WRITE leaves to be written, over a page boundary (R194). -/
theorem witness_ConfigWriteAndRestart_2 :
    let halt : State := { inState .haltedConfig sec with store := { sec.store with array := array } }
    let pages := (after (exec (.configWrite 14 [7, 8, 9]) halt)).bind fun t =>
      t.store.write.map fun w => (w.page, w.bytes.drop 13, w.rest.map fun p => (p.1, p.2.take 3))
    Memory.wf halt.store.array = true ∧ 14 + 3 ≤ 96 ∧ halt.store.write = none ∧
    (Memory.read array 13, Memory.read array 17, Memory.read array 18) = (0, 5, 2) ∧
    pages = some (0, [0, 7, 8], [(1, [9, 5, 2])]) := by decide +kernel

theorem witness_SeriesClaimAndPushAreJudged :
    let s : State := { sec with
      press := { sec.press with main := ⟨some 0, none, true, false⟩ }
      sched := { sec.sched with roster := sec.sched.roster.set 35 ⟨.current, 9, .ripe, 0⟩ } }
    let opens := claimant .assented
    2 ≤ 5 ∧ 2 < 5 ∧ Nat.gcd 2 5 = 1 ∧ s.sched.roster.length = 120 ∧ s.candidate = some 36 ∧ sec.candidate = none ∧
    s.slotOf 36 = some 0 ∧ s.sched.ovens[0]? = some (oven 36 .ripe 0 1200) ∧ s.kindCount .pusher = 1 ∧
    s.kindCount .guide = 1 ∧ s.kindCount .quench = 1 ∧ s.line.q1.length < 8 ∧
    opens.ticket.record = some (record .assented) ∧ opens.slotOf 36 = some 0 ∧ (opens.damper 0).applied = 0 ∧
    opens.aspirationValve 0 = false ∧ opens.doorState 0 .pusherSide = .off ∧
    (judgePush opens).line.q1.map (·.frame) = [.opening 1 36] := by decide +kernel

theorem witness_SeriesClaimAndPushAreJudged_2 :
    let base := claimant .opened
    let s : State := { base with
      ticket := { base.ticket with record := some { record .opened with reports := ⟨true, true, true, true, true⟩ } } }
    s.doorState 0 .pusherSide = .off ∧ s.doorState 0 .cokeSide = .off ∧
    (judgePush s).line.q1.map (·.frame) = [.go 1 36] := by decide +kernel

/-- The door-off limit runs while one door is not OFF, and stops at the event in which the second latch opens (R107). -/
theorem witness_SeriesClaimAndPushAreJudged_4 :
    let opening : Door := { door .deflated with latch := ⟨true, some 1⟩ }
    let s (other : Door) : State := { claimant .opened with
      pins := { sec.pins with inputs := 0#48 }
      door := [⟨opening, other⟩, ⟨door .off, door .off⟩, ⟨door .off, door .off⟩] }
    let left (other : Door) := (after (exec (.rejectTimerExpiry (.latch 1 .pusherSide)) (s other))).map fun t =>
      (t.doorState 0 .pusherSide, t.ticket.context.map (·.doorOff), t.ticket.context.map (·.spot))
    (s (door .off)).sectionRuns = true ∧ (s (door .off)).ticket.record = some (record .opened) ∧
    (s (door .off)).slotOf 36 = some 0 ∧ (s (door .off)).slotIndex 1 = some 0 ∧
    (s (door .off)).door[0]? = some ⟨opening, door .off⟩ ∧ (s (door .off)).lineLevel (.latch 1 .pusherSide) = false ∧
    left (door .off) = some (.off, some .stopped, some (.running 5000)) ∧
    left (door .deflated) = some (.off, some (.running 5000), some (.running 5000)) := by decide +kernel

/-- Withdrawals of GO, of CLAIM and of OPEN, and the mark in transmission (R84, R104, R108, R110). -/
theorem witness_SeriesClaimAndPushAreJudged_3 :
    let q (f : Frame) : Queued := ⟨f, 0, false⟩
    let goes (a : Option Attempt) : State := { claimant .opened with
      ticket := { (claimant .opened).ticket with context := some { Context.idle with goOffered := true } }
      door := [⟨door .deflated, door .off⟩, ⟨door .off, door .off⟩, ⟨door .off, door .off⟩]
      line := { sec.line with q1 := [q (.go 1 36)], attempt := a } }
    let claims (a : Option Attempt) : State := { sec with
      ticket := { sec.ticket with claim := some ⟨1, 36⟩ }, line := { sec.line with q1 := [q (.claim 1 36)], attempt := a } }
    let doorRuns : Context := { Context.idle with openOffered := true, doorOff := .running 5 }
    let opens : State := { claimant .assented with
      ticket := { (claimant .assented).ticket with context := some doorRuns }
      line := { sec.line with q1 := [q (.opening 1 36)] } }
    let queued (t : State) := t.line.q1.map fun x => (x.frame, x.marked)
    queued (judgePush (goes none)) = [] ∧ queued (judgePush (goes (some ⟨.go 1 36, false⟩))) = [(.go 1 36, true)] ∧
    (goes none).line.holds (.go 1 36) = true ∧ (claims none).line.holds (.claim 1 36) = true ∧
    (claims none).handsOn 1 (.claim 1 120) = true ∧ (claims none).handsOn 3 (.finished 5 120) = true ∧
    (claims none).handsOn 1 (.standing (secStanding 0 5)) = true ∧ (claims none).handsOn 1 (.stop .panel) = true ∧
    (after (exec (.stopFrame 1 .panel) (claims none))).map queued = some [] ∧
    (after (exec (.stopFrame 1 .panel) (claims (some ⟨.claim 1 36, false⟩)))).map queued = some [(.claim 1 36, true)] ∧
    opens.ticket.context.isSome = true ∧ opens.handsOn 1 (.abandon 1 36 .declined) = true ∧
    opens.handsOn 7 (.decline 1 36 .quench .fault) = true ∧ opens.handsOn 3 (.finished 1 36) = true ∧
    (after (exec .doorOffLimitExpiry opens)).map queued = some [] := by decide +kernel

theorem witness_FramesReadBackFromTheirBits :
    let f : Frame := .standing (secStanding 16777215 65535)
    f.valid = true ∧ 1 ≤ 31 ∧ 31 ≤ 31 ∧ (0 : BitVec 16) ≠ crc16 (checkedBits 31 f) := by decide +kernel

theorem witness_LineBitsBecomeCommands :
    let s : State := { sec with
      line := { sec.line with
        q1 := [⟨.claim 1 36, 0, false⟩], attempt := some ⟨.claim 1 36, false⟩, listener := ⟨12, none⟩ } }
    s.running = true ∧ s.line.attempt = some ⟨.claim 1 36, false⟩ ∧ s.line.listener.taking = none ∧
    State.reset.running = false ∧ inArbitration 9 (.claim 1 36) 7 = true ∧ inArbitration 9 (.claim 1 36) 8 = false ∧
    inArbitration 9 (.claim 1 36) 0 = false ∧
    receiveBits (frameBits 1 (.claim 1 120)) = .frame 1 (.claim 1 120) ∧
    receiveBits (List.replicate 5 false) = .unfinished ∧ receiveBits (List.replicate 6 false) = .fault .stuff ∧
    (after (State.readBits (frameBits 9 (.claim 1 36)) s)).map
      (fun t => (t.line.counters.txDone, t.line.q1, t.ticket.record.map (·.oven))) = some (1, [], some 36) := by
  decide +kernel

/-- The class invariant of the queues, which a frame in the queue of another class breaks. -/
theorem witness_EveryStepKeepsQueuesCountsAndArray_2 :
    let queued (q : List Queued) : State := { sec with line := { sec.line with q1 := q } }
    (queued [⟨.claim 1 36, 0, false⟩]).queuesOk ∧ ¬(queued [⟨.resume, 0, false⟩]).queuesOk := by
  unfold State.queuesOk; decide +kernel

theorem witness_EveryStepKeepsQueuesCountsAndArray :
    (after (step { sec with pending := [.setOven 36 1 0] })).isSome = true ∧
    { sec with pending := [.setOven 36 1 0] }.arrayOk ∧ sec.queuesOk ∧ sec.storeQueueOk ∧ sec.countsOk ∧ sec.tablesOk := by
  refine ⟨by decide +kernel, ?_, ?_, ⟨List.nodup_nil, fun r h => nomatch h⟩, ?_, ?_⟩
  · unfold State.arrayOk; decide +kernel
  · exact (by unfold State.queuesOk; decide +kernel)
  · unfold State.countsOk; decide +kernel
  · unfold State.tablesOk; decide +kernel

theorem witness_EveryStepKeepsTicketsSlotsAndMoves :
    (after (step { claimant .gone with pending := [.doneFrame 3 1 36] })).isSome = true ∧
    (claimant .gone).recordOk ∧ (claimant .gone).aspirationOk ∧ (car .guide).moveQueueOk ∧
    { car .guide with car := { (car .guide).car with state := .fault } }.carFaultOk := by
  refine ⟨by decide +kernel, ⟨?_, fun h => nomatch h⟩, ⟨by decide +kernel, List.nodup_nil, fun _ => rfl⟩, ?_, ?_⟩
  · intro r h
    cases h
    decide +kernel
  · unfold State.moveQueueOk; decide +kernel
  · exact fun _ => ⟨rfl, rfl, rfl, rfl⟩

theorem witness_EveryStepKeepsOvensDoorsAndValves :
    (after (step { sec with pending := [.lineMinuteAdvance] })).isSome = true ∧
    sec.ovensOk ∧ sec.doorsOk ∧ sec.valvesOk := by
  refine ⟨by decide +kernel, ?_, ?_, fun h => absurd h (by decide +kernel), ?_⟩
  · unfold State.ovensOk; decide +kernel
  · unfold State.doorsOk Door.ok; decide +kernel
  · intro k h
    match k with
    | 0 | 1 | 2 => exact absurd h (by decide +kernel)
    | _ + 3 => exact nomatch h

end Sys2Proof.Tests
end

