-- ==== Sys2Proof/Proofs/PinsAndConfiguration.lean ====
section
/-! The output pins line by line (R1, R2, R7, R12, R14, R177). -/

namespace Sys2Proof.Machine

/-! ### Output pins -/

theorem Door.valve_eq (d : Door) :
    d.valve = decide (d.state = .inflating ∨ d.state = .sealed ∨ d.state = .leaking) := by
  unfold Door.valve
  cases d.state <;> rfl

theorem sectionRuns_iff (s : State) :
    s.sectionRuns = true ↔ s.running = true ∧ s.resetRecord.role = .ovens := by
  simp [State.sectionRuns]

theorem carRuns_iff (s : State) : s.carRuns = true ↔ s.running = true ∧ s.resetRecord.role = .car := by
  simp [State.carRuns]

theorem sectionRuns_of_carRuns {s : State} (h : s.carRuns = true) : s.sectionRuns = false := by
  obtain ⟨_, hrole⟩ := (carRuns_iff s).1 h
  simp [State.sectionRuns, hrole]

theorem output_of_sectionRuns {s : State} (h : s.sectionRuns = true) (i : Nat) :
    s.output i = s.slotOutput (i / 3) (i % 3) := by
  simp [State.output, h]

theorem output_of_carRuns {s : State} (h : s.carRuns = true) (i : Nat) : s.output i = s.carOutput i := by
  simp [State.output, h, sectionRuns_of_carRuns h]

/-- Where the units do not run every line is off (R7, R12). -/
theorem output_of_not_running {s : State} (h : s.running = false) (i : Nat) : s.output i = false := by
  simp [State.output, State.sectionRuns, State.carRuns, h]

/-- Line `line` of the slot at index `k`. -/
theorem output_slot {s : State} (h : s.sectionRuns = true) (k : Nat) {line : Nat} (hl : line < 3) :
    s.output (3 * k + line) = s.slotOutput k line := by
  rw [output_of_sectionRuns h, show (3 * k + line) / 3 = k by omega, show (3 * k + line) % 3 = line by omega]

theorem slotOutput_of_no_door {s : State} {k : Nat} (h : s.door.length ≤ k) (line : Nat) :
    s.slotOutput k line = false := by
  simp [State.slotOutput, h]

/-- Where the section units do not run, or the outputs have not been driven yet, no POS is driven (R7, R177). -/
theorem positioner_undriven {s : State} (h : s.sectionRuns = false ∨ s.press.driven = false) (slot : Nat) :
    s.positioner slot = none := by
  have hd : (s.sectionRuns && s.press.driven) = false := by
    rcases h with h | h <;> simp [h]
  simp [State.positioner, hd]

theorem slotIndex_none {s : State} {slot : Nat} (h : slot = 0 ∨ s.sched.ovens.length < slot) :
    s.slotIndex slot = none := by
  simp only [State.slotIndex, ite_eq_right_iff, reduceCtorEq, imp_false]
  omega

theorem slotIndex_succ {s : State} {k : Nat} (h : k < s.sched.ovens.length) : s.slotIndex (k + 1) = some k := by
  simp only [State.slotIndex, Nat.add_sub_cancel]
  rw [if_pos (by omega)]

theorem damper_of_get {s : State} {k : Nat} {d : Damper} (h : s.press.dampers[k]? = some d) : s.damper k = d := by
  simp [State.damper, h]

theorem driveOn_iff {s : State} (h : s.carRuns = true) :
    s.driveOn = true ↔ s.car.state = .moving ∧ s.ticket.stopFlag = false ∧ s.line.state ≠ .haltedDuplicate := by
  simp [State.driveOn, h, and_assoc]

/-- SLOW's second condition: a HOME move, or a target one marker away (R125, R128). -/
theorem homing_or_near_iff (u : CarUnit) :
    (u.homing || u.nearTarget) = true ↔ ∃ m rest, u.queue = m :: rest ∧ (m.purpose = .home ∨
      ∃ p x, u.position = some p ∧ m.target = some x ∧ (p + 1 = x ∨ x + 1 = p)) := by
  unfold CarUnit.homing CarUnit.nearTarget
  cases u.queue with
  | nil => simp
  | cons m rest =>
    cases u.position with
    | none => simp
    | some p => cases ht : m.target <;> simp [ht]

end Sys2Proof.Machine
end

section
open Sys2Proof Sys2Proof.Machine

/-- Settles O57: the reset state holds no record, queue entry, oven, door or damper that could break one. -/
theorem resetStateMeetsEveryInvariant : Obligations.ResetStateMeetsEveryInvariant := by
  have hqueues : State.reset.queuesOk := by
    refine ⟨by decide, by decide, by decide, by decide, ?_⟩
    intro c _ q hq
    have hempty : State.reset.line.queue c = [] := by
      unfold LineUnit.queue
      split <;> rfl
    rw [hempty] at hq
    cases hq
  have hvalves : State.reset.valvesOk := by
    refine ⟨fun _ => rfl, fun k hk => ?_⟩
    exact absurd hk (by simp [State.aspirationValve, State.damper, State.reset, PressureUnit.reset, Damper.reset])
  refine ⟨rfl, hqueues, ?_, ?_, ?_, ?_, ?_, ?_, ?_, ?_, ?_, hvalves⟩
  · exact ⟨List.nodup_nil, fun r hr => nomatch hr⟩
  · unfold State.countsOk
    decide
  · exact ⟨List.length_replicate .., List.length_replicate ..⟩
  · exact ⟨fun r hr => (nomatch hr), fun _ => rfl⟩
  · exact ⟨Nat.le_refl 0, List.nodup_nil, fun _ => rfl⟩
  · exact Nat.zero_le 4
  · exact fun hfault => nomatch hfault
  · exact fun o ho => nomatch ho
  · exact fun pair hpair => nomatch hpair

/-- Settles O41, role by role: a section's lines by their slot, a car's by their number. -/
theorem outputsFollowTheUnits : Obligations.OutputsFollowTheUnits := by
  intro s
  refine ⟨fun hsec => ⟨?_, ?_, ?_, ?_⟩, fun hcar => ?_, fun hrun => ⟨output_of_not_running hrun, ?_⟩, ?_,
    ltx_of_no_attempt⟩
  · intro k pair hk
    refine ⟨?_, ?_, fun d hd => ?_⟩
    · rw [show 3 * k = 3 * k + 0 from rfl, output_slot hsec k (by omega)]
      simp [State.slotOutput, hk, Door.valve_eq]
    · rw [output_slot hsec k (by omega)]
      simp [State.slotOutput, hk, Door.valve_eq]
    · rw [output_slot hsec k (by omega)]
      simp only [State.slotOutput, hk, State.aspirationValve, damper_of_get hd]
      rfl
  · intro i hi
    rw [output_of_sectionRuns hsec, slotOutput_of_no_door (by omega)]
  · rintro slot (hd | hslot)
    · exact positioner_undriven (.inr hd) slot
    · simp [State.positioner, slotIndex_none hslot]
  · intro k d hd hk hget
    simp [State.positioner, hsec, hd, slotIndex_succ hk, damper_of_get hget]
  · refine ⟨?_, ?_, ?_, ?_, ?_, ?_, ?_, ?_, positioner_undriven (.inl (sectionRuns_of_carRuns hcar))⟩
    · simp [output_of_carRuns hcar, State.carOutput, State.fwd, driveOn_iff hcar]
    · simp [output_of_carRuns hcar, State.carOutput, State.rev, driveOn_iff hcar]
    · rw [output_of_carRuns hcar, ← homing_or_near_iff, ← driveOn_iff hcar]
      simp [State.carOutput, State.slow]
    · simp [output_of_carRuns hcar, State.carOutput, State.actStart, Option.isSome_iff_ne_none]
    · rw [output_of_carRuns hcar]
      unfold State.carOutput State.actCode
      cases s.car.action with
      | none => simp
      | some a => cases a <;> simp
    · rw [output_of_carRuns hcar]
      unfold State.carOutput State.actCode
      cases s.car.action with
      | none => simp
      | some a => cases a <;> simp
    · simp [output_of_carRuns hcar, State.carOutput, State.spray, hcar]
    · intro i hi
      rw [output_of_carRuns hcar]
      unfold State.carOutput
      split <;> first | omega | rfl
  · exact positioner_undriven (.inl (by simp [State.sectionRuns, hrun]))
  · simp [State.lineEnable, Option.isSome_iff_ne_none]

end

