-- ==== Sys2Proof/Proofs/PanelRequests.lean ====
section
/-! How a panel request is judged before its owning rule takes it (R196), and what CONFIG_WRITE starts (R194). -/

namespace Sys2Proof.Machine

/-! ### Line states -/

theorem not_inReset_of_running {s : State} (h : s.running = true) : s.line.state ≠ .inReset := by
  intro e
  simp [State.running, e] at h

theorem not_startHalt_of_running {s : State} (h : s.running = true) : s.startHalt = false := by
  unfold State.running at h
  unfold State.startHalt
  cases hs : s.line.state <;> simp_all

theorem startHalt_iff (s : State) :
    s.startHalt = true ↔ s.line.state = .haltedStrap ∨ s.line.state = .haltedConfig := by
  unfold State.startHalt
  cases s.line.state <;> simp

theorem not_inReset_of_startHalt {s : State} (h : s.startHalt = true) : s.line.state ≠ .inReset := by
  rcases (startHalt_iff s).1 h with e | e <;> simp [e]

/-- Outside the reset condition a station is on the line or halted. -/
theorem halted_eq_not_onLine {s : State} (h : s.line.state ≠ .inReset) : s.halted = !s.onLine := by
  unfold State.halted State.startHalt State.onLine
  cases hs : s.line.state <;> simp_all

/-! ### The order of R196 -/

/-- Every panel request is judged by its role, its service in a start halt and its parameter count. -/
theorem exec_of_asked {c : Instr} {x : Belongs × Bool × Bool} (h : c.asked = some x) :
    ∃ body : State → State, ∀ s, exec c s = .next (request x.1 x.2.1 x.2.2 body s) := by
  cases c
  all_goals cases h
  case confirmClock oven =>
    by_cases hall : oven = 0
    · exact ⟨accept (forSlots fun k => changeOven k Oven.confirmed), fun s => by
        simp only [exec, execConfirmClock, if_pos hall]⟩
    · exact ⟨withOwnOven oven fun k _ => accept (changeOven k Oven.confirmed), fun s => by
        simp only [exec, execConfirmClock, if_neg hall, ovenRequest]⟩
  all_goals exact ⟨_, fun _ => rfl⟩

section
variable {belongs : Belongs} {servedInHalt : Bool} {body : State → State} {s : State}

theorem request_heldInReset {countOk : Bool} (hs : s.line.state = .inReset) (hp : s.pins.rstnLow = true) :
    request belongs servedInHalt countOk body s = s := by
  simp [request, hs, hp]

theorem request_busy {countOk : Bool} (hs : s.line.state = .inReset) (hp : s.pins.rstnLow = false) :
    request belongs servedInHalt countOk body s = answer .busy s := by
  simp [request, hs, hp]

theorem request_range (hs : s.line.state ≠ .inReset) :
    request belongs servedInHalt false body s = answer .range s := by
  simp [request, hs]

theorem request_refused (hs : s.startHalt = true) : request belongs false true body s = answer .refused s := by
  simp [request, not_inReset_of_startHalt hs, hs]

theorem request_otherRole (hs : s.running = true) (hb : belongs.serves s.resetRecord.role = false) :
    request belongs servedInHalt true body s = answer .role s := by
  simp [request, not_inReset_of_running hs, not_startHalt_of_running hs, hb]

/-- A request that passes every judgement of R196 is taken by its owning rule. -/
theorem request_taken (hs : s.running = true) (hb : belongs.serves s.resetRecord.role = true) :
    request belongs servedInHalt true body s = body s := by
  simp [request, not_inReset_of_running hs, not_startHalt_of_running hs, hb]

/-- So is one of either role that a start halt serves, outside the reset condition. -/
theorem request_takenAnywhere (hs : s.line.state ≠ .inReset) : request .both true true body s = body s := by
  simp [request, hs, Belongs.serves]

end

/-! ### Configuration writes -/

theorem page_length (m : Memory) (p : Nat) : (Memory.page m p).length = 16 := by
  simp [Memory.page, Memory.readBytes]

theorem page_getD (m : Memory) (p : Nat) {i : Nat} (h : i < 16) :
    (Memory.page m p).getD i 0 = Memory.read m (16 * p + i) := by
  simp [Memory.page, Memory.readBytes, List.getD, h]

/-- A page of the array with a configuration write's bytes in their places. -/
theorem page_writeBytes_getD {m : Memory} (hm : Memory.wf m = true) {offset : Nat} {bytes : List Byte}
    (hend : offset + bytes.length ≤ 96) (p : Nat) {i : Nat} (hi : i < 16) :
    (Memory.page (Memory.writeBytes m offset bytes) p).getD i 0 =
      if offset ≤ 16 * p + i ∧ 16 * p + i < offset + bytes.length then bytes.getD (16 * p + i - offset) 0
      else Memory.read m (16 * p + i) := by
  rw [page_getD _ _ hi, Memory.read_writeBytes bytes m offset _ hm]
  exact ite_congr (propext (by omega)) (fun _ => rfl) fun _ => rfl

/-- The pages of a configuration write follow one another from the page of its offset on. -/
theorem configPages_eq_cons {m : Memory} {offset : Nat} {bytes : List Byte} (h : 1 ≤ bytes.length) :
    configPages m offset bytes =
      (offset / 16, Memory.page (Memory.writeBytes m offset bytes) (offset / 16)) ::
        (List.range ((offset + bytes.length - 1) / 16 - offset / 16)).map fun j =>
          (offset / 16 + 1 + j, Memory.page (Memory.writeBytes m offset bytes) (offset / 16 + 1 + j)) := by
  have hcount : (offset + bytes.length - 1) / 16 + 1 - offset / 16 =
      ((offset + bytes.length - 1) / 16 - offset / 16) + 1 := by omega
  simp only [configPages, hcount, List.range_succ_eq_map, List.map_cons, List.map_map, Nat.add_zero]
  refine congrArg _ (List.map_congr_left fun j _ => ?_)
  simp only [Function.comp, Nat.succ_eq_add_one, show offset / 16 + (j + 1) = offset / 16 + 1 + j by omega]

theorem startConfigWrite_eq {s : State} {offset : Nat} {bytes : List Byte} (h : 1 ≤ bytes.length) :
    startConfigWrite offset bytes s = s.mapStore fun u =>
      { u with
        write := some
          ⟨offset / 16, Memory.page (Memory.writeBytes s.store.array offset bytes) (offset / 16), false,
            (List.range ((offset + bytes.length - 1) / 16 - offset / 16)).map fun j =>
              (offset / 16 + 1 + j, Memory.page (Memory.writeBytes s.store.array offset bytes) (offset / 16 + 1 + j)),
            40⟩ } := by
  simp only [startConfigWrite, configPages_eq_cons h]
  rfl

theorem takeConfigWrite_started {s : State} {offset : Nat} {bytes : List Byte} (hs : s.halted = true)
    (hend : offset + bytes.length ≤ 96) (hw : s.store.write = none) :
    takeConfigWrite offset bytes s = answer .accepted (startConfigWrite offset bytes s) := by
  simp [takeConfigWrite, hs, hw, Nat.not_lt.2 hend]

end Sys2Proof.Machine
end

section
open Sys2Proof Sys2Proof.Machine

/-- Settles O43 by the order in which `request` judges. -/
theorem requestsAreJudgedInOrder : Obligations.RequestsAreJudgedInOrder := by
  intro c s belongs servedInHalt countOk hasked
  obtain ⟨body, hexec⟩ := exec_of_asked hasked
  simp only [Ignored, Answers, hexec]
  refine ⟨?_, ?_, ?_, ?_, ?_⟩
  · intro hs hp
    rw [request_heldInReset hs hp]
  · intro hs hp
    rw [request_busy hs hp]
    rfl
  · rintro hs rfl
    rw [request_range hs]
    rfl
  · rintro hs rfl rfl
    rw [request_refused ((startHalt_iff s).2 hs)]
    rfl
  · rintro hs rfl role rfl hrole
    rw [request_otherRole hs (by simpa [Belongs.serves] using Ne.symm hrole)]
    rfl

/-- Settles O53 from what the pages of a configuration write hold. -/
theorem configWriteAndRestart : Obligations.ConfigWriteAndRestart := by
  intro s offset bytes hs
  refine ⟨?_, fun hcount => ?_⟩
  · simp only [exec, execRestart, request_takenAnywhere hs]
    rfl
  have hlen : 1 ≤ bytes.length := by
    simp only [between, Bool.and_eq_true, decide_eq_true_eq] at hcount
    exact hcount.1
  have hhalted := halted_eq_not_onLine hs
  have hexec : exec (.configWrite offset bytes) s = .next (takeConfigWrite offset bytes s) := by
    simp only [exec, execConfigWrite, hcount, request_takenAnywhere hs]
  simp only [Answers, Completes, hexec]
  refine ⟨fun hon => ?_, fun hon hend => ?_, fun hon hend hw => ?_, fun hon hend hw hm => ?_⟩
  · simp only [takeConfigWrite, hhalted, hon]
    rfl
  · simp only [takeConfigWrite, hhalted, hon, hend]
    rfl
  · simp only [takeConfigWrite, hhalted, hon, hw, Nat.not_lt.2 hend]
    rfl
  · rw [takeConfigWrite_started (by simp [hhalted, hon]) hend hw, startConfigWrite_eq hlen]
    refine ⟨_, rfl, rfl, _, rfl, rfl, rfl, rfl, ?_, by simp, ?_⟩
    · exact ⟨page_length _ _, fun i hi => page_writeBytes_getD hm hend _ hi⟩
    · intro j p b hj
      simp only [List.getElem?_map, Option.map_eq_some_iff] at hj
      obtain ⟨k, hk, hpb⟩ := hj
      obtain ⟨hlt, rfl⟩ := List.getElem?_eq_some_iff.1 hk
      simp only [List.getElem_range, Prod.mk.injEq] at hpb
      obtain ⟨rfl, rfl⟩ := hpb
      exact ⟨rfl, page_length _ _, fun i hi => page_writeBytes_getD hm hend _ hi⟩

end

