-- ==== Sys2Proof/Proofs/PanelReads.lean ====
section
/-! The data of the panel's reads field by field (R197), each code as the position in its list. -/

namespace Sys2Proof.Machine

/-! ### Fields -/

@[simp] theorem toBytes_length (n v : Nat) : (toBytes n v).length = n := by
  induction n with
  | zero => rfl
  | succ n ih => simp [toBytes, ih]

@[simp] theorem optBytes_length (n : Nat) (v : Option Nat) : (optBytes n v).length = n := by
  cases v <;> simp [optBytes, allOnes]

@[simp] theorem signedBytes_length (v : Int) : (signedBytes v).length = 2 := toBytes_length 2 _

theorem flagByte_eq (b : Bool) : flagByte b = if b then [1] else [0] := by
  cases b <;> rfl

@[simp] theorem flagByte_length (b : Bool) : (flagByte b).length = 1 := toBytes_length 1 _

/-- A list field of one-byte entries. -/
theorem listBytes_bytes (places : Nat) (l : List Nat) :
    listBytes places 1 (l.map (toBytes 1)) =
      toBytes 1 l.length ++ l.flatMap (toBytes 1) ++ List.replicate (places - l.length) 255 := by
  simp only [listBytes, List.length_map, Nat.mul_one, List.flatMap_def]
  rfl

/-- The first bytes of a read are those it begins with. -/
theorem take_of_firstBytes {l first : List Byte} {n : Nat} (h : first <+: l) (hn : first.length = n) :
    l.take n = first := by
  subst hn
  exact (List.prefix_iff_eq_take.1 h).symm

/-- The `i`-th of equally long entries that follow one another. -/
theorem take_drop_flatten {w : Nat} (l : List (List Byte)) (hw : ∀ x ∈ l, x.length = w) (i : Nat) (hi : i < l.length) :
    (l.flatten.drop (w * i)).take w = l[i] := by
  induction l generalizing i with
  | nil => exact absurd hi (by simp)
  | cons x rest ih =>
    have hx : x.length = w := hw x (by simp)
    cases i with
    | zero => simp [← hx]
    | succ i =>
      have hdrop : (x ++ rest.flatten).drop (w * (i + 1)) = rest.flatten.drop (w * i) := by
        rw [List.drop_append, hx, show w * (i + 1) - w = w * i by rw [Nat.mul_succ]; omega,
          List.drop_eq_nil_of_le (by rw [hx, Nat.mul_succ]; omega), List.nil_append]
      rw [List.flatten_cons, hdrop, List.getElem_cons_succ]
      exact ih (fun y hy => hw y (by simp [hy])) i (by simpa using hi)

theorem length_flatten_of_equal {w : Nat} (l : List (List Byte)) (hw : ∀ x ∈ l, x.length = w) :
    l.flatten.length = w * l.length := by
  induction l with
  | nil => rfl
  | cons x rest ih =>
    rw [List.flatten_cons, List.length_append, hw x (by simp), ih fun y hy => hw y (by simp [hy]), List.length_cons,
      Nat.mul_succ, Nat.add_comm]

/-! ### Codes as positions -/

theorem LineState.code_eq (l : LineState) : l.code = [LineState.joining, .active, .withdrawn].findIdx (· == l) := by
  cases l <;> rfl

theorem haltCause_bytes (l : LineState) :
    optBytes 1 l.haltCause =
      if l = .joining ∨ l = .active ∨ l = .withdrawn ∨ l = .inReset then List.replicate 1 255
      else toBytes 1 ([LineState.haltedDuplicate, .haltedStrap, .haltedConfig].findIdx (· == l)) := by
  cases l <;> rfl

theorem OvenState.code_eq (x : OvenState) :
    x.code = [OvenState.empty, .charging, .coking, .ripe, .claimed, .pushing, .outOfService, .unknown].findIdx
      (· == x) := by
  cases x <;> rfl

theorem summaryCode_eq (x : Summary) : summaryCode x = [Summary.coking, .ripe, .busy, .skip].findIdx (· == x) := by
  cases x <;> rfl

theorem DoorState.code_eq (x : DoorState) :
    x.code = [DoorState.off, .inflating, .sealed, .leaking, .reseating, .deflated, .fault].findIdx (· == x) := by
  cases x <;> rfl

theorem RosterState.code_eq (x : RosterState) :
    x.code = [RosterState.absent, .current, .stale].findIdx (· == x) := by
  cases x <;> rfl

theorem PeerStanding.code_eq (x : PeerStanding) :
    x.code = [PeerStanding.absent, .probation, .inStanding, .lapsed].findIdx (· == x) := by
  cases x <;> rfl

theorem kindCode_eq (x : CarKind) : kindCode x = [CarKind.pusher, .guide, .quench].findIdx (· == x) := by
  cases x <;> rfl

theorem Phase.rank_eq (x : Phase) :
    x.rank = [Phase.claimed, .assented, .opened, .gone, .stuck].findIdx (· == x) := by
  cases x <;> rfl

theorem carStateCode_eq (x : CarState) :
    carStateCode x =
      [CarState.unhomed, .homing, .idle, .moving, .spotted, .acting, .fault].findIdx (· == x) := by
  cases x <;> rfl

theorem roleCode_eq (r : Role) : roleCode r = if r = .ovens then 0 else 1 := by
  cases r <;> rfl

/-! ### Entries -/

/-- A peer entry takes 16 bytes. -/
theorem peerData_length {p : Peer} (h : p.map.length ≤ 8) : (peerData p).length = 16 := by
  have hmap : (p.map.flatMap (toBytes 1)).length = p.map.length := by
    induction p.map with
    | nil => rfl
    | cons n rest ih => rw [List.flatMap_cons, List.length_append, toBytes_length, ih, List.length_cons, Nat.add_comm]
  simp only [peerData, listBytes_bytes, List.length_append, toBytes_length, optBytes_length, hmap,
    List.length_replicate]
  omega

theorem roleByte_eq (r : Option Role) :
    optBytes 1 (r.map roleCode) =
      match r with
      | some .ovens => [0]
      | some .car => [1]
      | none => List.replicate 1 255 := by
  rcases r with _ | _ | _ <;> rfl

theorem kindByte_eq (k : Option CarKind) :
    optBytes 1 (k.map kindCode) =
      match k with
      | some k => toBytes 1 ([CarKind.pusher, .guide, .quench].findIdx (· == k))
      | none => List.replicate 1 255 := by
  rcases k with _ | _ | _ | _ <;> rfl

theorem rosterEntryData_length (e : RosterEntry) : (rosterEntryData e).length = 5 := by
  simp [rosterEntryData]

/-- READ_TICKET begins with the record, last-done and the stop flag (R197). -/
theorem ticketData_take (s : State) {n : Nat} (h : n = (recordData s.ticket.record).length + 3) :
    (ticketData s).take n =
      recordData s.ticket.record ++ toBytes 2 s.ticket.lastDone.toNat ++ flagByte s.ticket.stopFlag := by
  refine take_of_firstBytes ?_ (by simp [h])
  rw [ticketData]
  exact List.prefix_append _ _

/-- A record's data begins with ticket, oven, claimant and phase (R86). -/
theorem ticketData_take_record {s : State} {r : Record} (h : s.ticket.record = some r) :
    (ticketData s).take 5 =
      toBytes 2 r.ticket.toNat ++ toBytes 1 r.oven ++ optBytes 1 r.claimant ++ toBytes 1 r.phase.rank := by
  refine take_of_firstBytes ?_ (by simp)
  simp only [ticketData, recordData, h, List.append_assoc]
  simp

/-- READ_CAR begins with kind, position and state (R120). -/
theorem carData_take (s : State) :
    (carData s).take 4 =
      toBytes 1 (kindCode s.cfg.carKind) ++ optBytes 2 s.car.position ++ toBytes 1 (carStateCode s.car.state) := by
  refine take_of_firstBytes ?_ (by simp)
  simp only [carData, List.append_assoc]
  simp

/-- READ_PRESSURE begins with channel 0 (R168). -/
theorem pressureData_take {s : State} {c : Channel} {rest : List Channel} (h : s.press.channels = c :: rest) :
    (pressureData s).take 6 = channelData c := by
  refine take_of_firstBytes ?_ (by simp [channelData])
  simp only [pressureData, h, List.map_cons, List.flatten_cons, List.append_assoc]
  exact List.prefix_append _ _

theorem peerAt_of_table {s : State} {n : Nat} (h1 : 1 ≤ n) (h2 : n - 1 < s.peer.table.length) :
    s.peerAt n = s.peer.table[n - 1] := by
  simp [State.peerAt, Nat.one_le_iff_ne_zero.1 h1, List.getD, h2]

/-! ### Reads that are answered -/

theorem readAnywhere_taken (data : State → List Byte) {s : State} (hs : s.line.state ≠ .inReset) :
    readAnywhere data s = answerData (data s) s := request_takenAnywhere hs

theorem readRunning_taken {belongs : Belongs} (data : State → List Byte) {s : State} (hs : s.running = true)
    (hb : belongs.serves s.resetRecord.role = true) : readRunning belongs data s = answerData (data s) s :=
  request_taken hs hb

theorem withOwnOven_own {oven k : Nat} {o : Oven} {s : State} (body : Nat → Oven → State → State)
    (hk : s.slotOf oven = some k) (ho : s.sched.ovens[k]? = some o) : withOwnOven oven body s = body k o s := by
  simp [withOwnOven, hk, ho]

theorem withOwnOven_other {oven : Nat} {s : State} (body : Nat → Oven → State → State) (hk : s.slotOf oven = none) :
    withOwnOven oven body s = answer .range s := by
  simp [withOwnOven, hk]

/-- A page that is not being written reads as stored (log 14). -/
theorem storedByte_eq {s : State} {i : Nat} (h : ∀ w, s.store.write = some w → i / 16 ≠ w.page) :
    storedByte s i = Memory.read s.store.array i := by
  unfold storedByte
  split
  · rename_i w hw
    rw [if_neg (h w hw)]
  · rfl

theorem configRangeOk_iff (offset count : Nat) :
    configRangeOk offset count = true ↔ 1 ≤ count ∧ count ≤ 96 ∧ offset + count - 1 ≤ 95 := by
  simp [configRangeOk, between, and_assoc]

theorem rosterRangeOk_iff (first count : Nat) :
    rosterRangeOk first count = true ↔
      1 ≤ first ∧ first ≤ 120 ∧ 1 ≤ count ∧ count ≤ 99 ∧ first + count - 1 ≤ 120 := by
  simp [rosterRangeOk, between, and_assoc]

/-- READ_STATION, READ_EVENTS and CONFIG_READ, which a start halt serves too (R12). -/
theorem readsAnywhere_answered (s : State) (hs : s.line.state ≠ .inReset) :
    Answers .readStation s .accepted (stationData s) ∧
    Answers .readEvents s .accepted (eventsData s.panel) ∧
    (∀ offset count, configRangeOk offset count = false → Answers (.configRead offset count) s .range []) ∧
    (∀ offset count, configRangeOk offset count = true → s.store.write = none →
      Answers (.configRead offset count) s .accepted (configData offset count s)) ∧
    (∀ offset count, configRangeOk offset count = true → s.store.write.isSome = true →
      exec (.configRead offset count) s = .next { s with
        fresh := s.fresh + 1
        panel := { s.panel with reply := some ⟨.accepted, configData offset count s⟩ } }) := by
  have hread : ∀ offset count, exec (.configRead offset count) s = .next (readBlock offset count s) := by
    intro offset count
    simp only [exec, execConfigRead, request_takenAnywhere hs]
  simp only [Answers, hread]
  refine ⟨?_, ?_, fun offset count hr => ?_, fun offset count hr hw => ?_, fun offset count hr hw => ?_⟩
  · simp only [exec, execReadStation, readAnywhere_taken _ hs]
    rfl
  · simp only [exec, execReadEvents, readAnywhere_taken _ hs]
    rfl
  · simp only [readBlock, hr]
    rfl
  · simp only [readBlock, hr, hw]
    rfl
  · simp only [readBlock, hr, hw]
    rfl

end Sys2Proof.Machine
end

section
open Sys2Proof Sys2Proof.Machine

/-- Settles O45: the reads are answered by R196, and their data is what the units hold. -/
theorem readsAnswerTheirData : Obligations.ReadsAnswerTheirData := by
  refine ⟨fun s hs => ?_, fun s hs => ?_, fun s => ?_⟩
  · have hstate : s.line.state ≠ .inReset := hs.elim not_inReset_of_running not_inReset_of_startHalt
    obtain ⟨hstation, hevents, hrange, hstored, hwriting⟩ := readsAnywhere_answered s hstate
    refine ⟨hstation, hevents, fun offset count hc => ?_, fun offset count h1 h96 hend => ⟨fun hw => ?_, fun w hw => ?_⟩⟩
    · refine hrange offset count (Bool.eq_false_iff.2 fun hok => ?_)
      have := (configRangeOk_iff offset count).1 hok
      omega
    · have hdata : configData offset count s = (List.range count).map fun i => Memory.read s.store.array (offset + i) :=
        List.map_congr_left fun i _ => storedByte_eq (by simp [hw])
      rw [← hdata]
      exact hstored offset count ((configRangeOk_iff offset count).2 ⟨h1, h96, hend⟩) hw
    · refine ⟨_, hwriting offset count ((configRangeOk_iff offset count).2 ⟨h1, h96, hend⟩) (by simp [hw]), _, rfl,
        by simp [configData], fun i hi hpage => ?_⟩
      have hbyte : storedByte s (offset + i) = Memory.read s.store.array (offset + i) := by
        refine storedByte_eq fun w' hw' => ?_
        rw [hw] at hw'
        rwa [← Option.some.inj hw']
      simp [configData, hi, hbyte]
  · refine ⟨?_, ?_, fun hrole => ?_, fun hrole => ⟨?_, fun oven k o hk ho => ?_, fun oven hk => ?_,
      fun first count h1 h120 hc hc' hend => ?_, fun first count hr => ?_⟩⟩
    · simp only [Answers, exec, execReadPeers, readRunning_taken (belongs := .both) _ hs rfl]
      rfl
    · simp only [Answers, exec, execReadTicket, readRunning_taken (belongs := .both) _ hs rfl]
      rfl
    · simp only [Answers, exec, execReadCar,
        readRunning_taken (belongs := .only .car) carData hs (by simp [Belongs.serves, hrole])]
      rfl
    · simp only [Answers, exec, execReadPressure,
        readRunning_taken (belongs := .only .ovens) pressureData hs (by simp [Belongs.serves, hrole])]
      rfl
    all_goals
      have hserves : (Belongs.only .ovens).serves s.resetRecord.role = true := by simp [Belongs.serves, hrole]
    · simp only [Answers, exec, execReadOven, execReadDoors, request_taken hs hserves, withOwnOven_own _ hk ho]
      exact ⟨rfl, rfl⟩
    · simp only [Answers, exec, execReadOven, execReadDoors, request_taken hs hserves, withOwnOven_other _ hk]
      exact ⟨rfl, rfl⟩
    · have hok := (rosterRangeOk_iff first count).2 ⟨h1, h120, hc, hc', hend⟩
      simp only [Answers, exec, execReadRoster, request_taken hs hserves, hok]
      rfl
    · have hok : rosterRangeOk first count = false := by
        refine Bool.eq_false_iff.2 fun hok => ?_
        have := (rosterRangeOk_iff first count).1 hok
        omega
      simp only [Answers, exec, execReadRoster, request_taken hs hserves, hok]
      rfl
  · refine ⟨?_, fun o => ?_, fun k pair hk => ?_, fun first count => ⟨?_, ?_⟩, fun htable hmaps => ⟨?_, fun n h1 h31 => ?_⟩,
      fun hr => ?_, fun r hr => ?_, ?_, fun c rest hc => ?_⟩
    · simp only [stationData, ResetRecord.bytes, LineState.code_eq, haltCause_bytes, flagByte_eq, roleCode_eq]
      rfl
    · simp only [ovenData, OvenState.code_eq, flagByte_eq, summaryCode_eq]
    · simp only [doorsData, hk, doorData, DoorState.code_eq, flagByte_eq]
      rfl
    · rw [rosterData, length_flatten_of_equal (w := 5) _ (by simp [rosterEntryData_length])]
      simp
    · simp only [rosterData, rosterEntryData, RosterState.code_eq, summaryCode_eq, List.flatMap_def]
    · rw [peersData, length_flatten_of_equal (w := 16), List.length_map, htable]
      simpa using fun p hp => peerData_length (hmaps p hp)
    · have hn : n - 1 < s.peer.table.length := by omega
      rw [peersData, take_drop_flatten (w := 16) _ (by simpa using fun p hp => peerData_length (hmaps p hp)) (n - 1)
        (by simpa using hn), List.getElem_map, ← peerAt_of_table h1 hn]
      simp only [peerData, PeerStanding.code_eq, listBytes_bytes, roleByte_eq, kindByte_eq, ← List.append_assoc]
      rfl
    · rw [ticketData_take s (by simp [hr, recordData, allOnes]), hr, flagByte_eq]
      rfl
    · rw [ticketData_take_record hr, Phase.rank_eq]
      rfl
    · rw [carData_take, kindCode_eq, carStateCode_eq]
      rfl
    · rw [pressureData_take hc, channelData, flagByte_eq, flagByte_eq]
      rfl

end

