-- ==== Sys2Proof/Proofs/ResetAndStart.lean ====
section
/-! What a reset leaves of the array (R191) and of every unit (R7, R8), and the start sequence step by step
(R9 to R11). -/

namespace Sys2Proof.Machine

/-! ### The array outside what is written -/

theorem Memory.read_write_of_ne (m : Memory) {a a' : Nat} (v : Byte) (h : a ≠ a') :
    Memory.read (Memory.write m a v) a' = Memory.read m a' := by
  induction m with
  | nil =>
    simp only [Memory.write]
    split <;> simp [Memory.read, h]
  | cons x rest ih =>
    obtain ⟨k, b⟩ := x
    simp only [Memory.write]
    split
    · split <;> simp [Memory.read, h]
    · split
      · rename_i hak
        subst hak
        split <;> simp [Memory.read, h]
      · simp [Memory.read, ih]

theorem Memory.read_writeBytes_outside (bytes : List Byte) (m : Memory) {a a' : Nat}
    (h : a' < a ∨ a + bytes.length ≤ a') : Memory.read (Memory.writeBytes m a bytes) a' = Memory.read m a' := by
  induction bytes generalizing m a with
  | nil => rfl
  | cons v rest ih =>
    rw [List.length_cons] at h
    rw [Memory.writeBytes, ih _ (by omega)]
    split
    · exact Memory.read_write_of_ne m v (by omega)
    · rfl

theorem Memory.read_writePage_outside (m : Memory) (page : Nat) (bytes : List Byte) {a : Nat}
    (h : a < 16 * page ∨ 16 * page + 16 ≤ a) :
    Memory.read (Memory.writePage m page bytes) a = Memory.read m a := by
  refine Memory.read_writeBytes_outside _ m ?_
  rw [List.length_take]
  omega

/-- A write cut off changes its own page at most. -/
theorem read_cutPage_outside (n : Nat) (m : Memory) (w : PageWrite) {a : Nat}
    (h : a < 16 * w.page ∨ 16 * w.page + 16 ≤ a) : Memory.read (cutPage n m w) a = Memory.read m a := by
  unfold cutPage
  split
  · rfl
  all_goals exact Memory.read_writePage_outside m w.page _ h

/-! ### Resets -/

theorem resetStation_array (cause : ResetCause) (low : Bool) (s : State) :
    arrayAcrossReset s (resetStation cause low s) := by
  have harray : (resetStation cause low s).store.array = arrayAfterReset s := rfl
  unfold arrayAcrossReset sameArray
  rw [harray, arrayAfterReset]
  cases s.store.write with
  | none => exact fun _ => rfl
  | some w => exact fun a ha => read_cutPage_outside s.fresh s.store.array w ha

theorem resetStation_afterReset (cause : ResetCause) (low : Bool) (s : State) :
    afterReset cause low s (resetStation cause low s) :=
  ⟨rfl, rfl, rfl, rfl, rfl, rfl, rfl, rfl, rfl, rfl, rfl, rfl, rfl, rfl⟩

theorem resetStation_not_running (cause : ResetCause) (low : Bool) (s : State) :
    (resetStation cause low s).running = false := rfl

/-- RESET alone is set (R200). -/
theorem resetStation_flag (cause : ResetCause) (low : Bool) (s : State) (e : EventFlag) :
    (resetStation cause low s).flag e = decide (e = .reset) := by
  have hevents : (resetStation cause low s).panel.events = 1#20 := rfl
  rw [State.flag, hevents]
  cases e <;> rfl

/-! ### The start sequence -/

/-- A flag that a start halt sets beside HALTED: none. -/
theorem startHaltIn_otherFlag (l : LineState) (s : State) {e : EventFlag} (h : e ≠ .halted) :
    (startHaltIn l s).flag e = s.flag e := by
  rw [startHaltIn, raise_other _ _ _ (Ne.symm h)]
  rfl

theorem startHaltIn_halted (l : LineState) (s : State) : (startHaltIn l s).flag .halted = true := raise_self _ _

theorem startHaltIn_line (l : LineState) (s : State) : (startHaltIn l s).line = { s.line with state := l } := rfl

/-- The role that the level of ROLE straps (R3). -/
def strappedRole (roleHigh : Bool) : Role := if roleHigh then .car else .ovens

/-- The station with its straps sampled (R9). -/
def sampleStraps (roleHigh : Bool) (stn : Nat) (s : State) : State :=
  { s with
    pins := { s.pins with roleHigh := roleHigh, stn := stn, rstnLow := false }
    resetRecord := { s.resetRecord with role := strappedRole roleHigh, station := stn } }

/-- The restore step of a role (R11). -/
def restoreUnits : Role → State → State
  | .ovens => restoreSection
  | .car => restoreCar

theorem startStation_strapHalt (roleHigh : Bool) (s : State) :
    startStation roleHigh 0 s = startHaltIn .haltedStrap (sampleStraps roleHigh 0 s) := rfl

theorem startStation_configHalt {roleHigh : Bool} {stn off : Nat} {s : State} (hn : stn ≠ 0)
    (hc : checkConfig (strappedRole roleHigh) s.store.array = some off) :
    startStation roleHigh stn s = startHaltIn .haltedConfig
      { sampleStraps roleHigh stn s with
        resetRecord := { (sampleStraps roleHigh stn s).resetRecord with failOffset := some off } } := by
  unfold strappedRole at hc
  simp only [startStation, if_neg hn, hc]
  rfl

theorem startStation_joins {roleHigh : Bool} {stn : Nat} {s : State} (hn : stn ≠ 0)
    (hc : checkConfig (strappedRole roleHigh) s.store.array = none) :
    startStation roleHigh stn s =
      endStart (restoreUnits (strappedRole roleHigh)
        { sampleStraps roleHigh stn s with cfg := readConfig s.store.array }) := by
  unfold strappedRole at hc
  simp only [startStation, if_neg hn, hc]
  cases roleHigh <;> rfl

theorem exec_startSequence {roleHigh : Bool} {stn : Nat} {s : State} (h : s.line.state = .inReset) :
    exec (.startSequence roleHigh stn) s = .next (startStation roleHigh stn s) := by
  simp only [exec, execStartSequence, if_pos h]

/-! ### The restore step -/

theorem goodOvens_le (m : Memory) (k : Nat) (ovens : List Nat) : goodOvens m k ovens ≤ ovens.length := by
  induction ovens generalizing k with
  | nil => exact Nat.le_refl 0
  | cons n rest ih =>
    have hrest := ih (k + 1)
    simp only [goodOvens, List.length_cons]
    split <;> omega

theorem readOvenPage_number {k n : Nat} {page : List Byte} {o : Oven} (h : readOvenPage k n page = some o) :
    o.number = n := by
  simp only [readOvenPage] at h
  split at h
  · cases h
  · split at h
    · cases h
      rfl
    · cases h

theorem restore_number (o : Oven) : o.restore.number = o.number := by
  unfold Oven.restore
  split <;> rfl

theorem restoreOvens_number (c : Cfg) (m : Memory) (k : Nat) (ovens : List Nat) :
    (restoreOvens c m k ovens).map (·.number) = ovens := by
  induction ovens generalizing k with
  | nil => rfl
  | cons n rest ih =>
    rw [restoreOvens, List.map_cons, ih]
    congr 1
    split
    · rename_i o ho
      rw [restore_number, readOvenPage_number ho]
    · rfl

/-- What the restore step leaves alone in either role, and how it counts `total` records (R11, R193). -/
structure Restored (total : Nat) (s t : State) : Prop where
  line : t.line = s.line
  pins : t.pins = s.pins
  cfg : t.cfg = s.cfg
  store : t.store = s.store
  table : t.peer.table = s.peer.table
  identity : ∃ good bad, t.resetRecord = { s.resetRecord with restored := good, bad := bad } ∧ good + bad = total
  storeFault : t.resetRecord.bad ≠ 0 → t.flag .storeFault = true

/-- Counting the records of which `good` are good. -/
theorem recordCounts_restored {good total : Nat} (h : good ≤ total) (s : State) :
    Restored total s (recordCounts good total s) where
  line := by simp
  pins := by simp
  cfg := by simp
  store := by simp
  table := by simp
  identity := ⟨good, total - good, by simp [recordCounts], by omega⟩
  storeFault := by
    have hbad : (recordCounts good total s).resetRecord.bad = total - good := by simp [recordCounts]
    rw [hbad]
    intro hne
    have hlt : good < total := by omega
    simp [recordCounts, raiseIf, hlt]

/-- Steps that touch none of it keep what was restored. -/
theorem Restored.of_frame {total : Nat} {s t u : State} (h : Restored total s t) (hline : u.line = t.line)
    (hpins : u.pins = t.pins) (hcfg : u.cfg = t.cfg) (hstore : u.store = t.store)
    (htable : u.peer.table = t.peer.table) (hrecord : u.resetRecord = t.resetRecord) (hpanel : u.panel = t.panel) :
    Restored total s u where
  line := hline.trans h.line
  pins := hpins.trans h.pins
  cfg := hcfg.trans h.cfg
  store := hstore.trans h.store
  table := htable.trans h.table
  identity := hrecord ▸ h.identity
  storeFault := by
    rw [hrecord, flag_congr t u _ (by rw [hpanel])]
    exact h.storeFault

theorem restoreSection_restored {s : State} (h : s.cfg.slotOvens.length = s.cfg.slotCount) :
    Restored (s.cfg.slotCount + 1) s (restoreSection s) := by
  have hgood := goodOvens_le s.store.array 0 s.cfg.slotOvens
  refine (recordCounts_restored (s := s)
    (good := goodOvens s.store.array 0 s.cfg.slotOvens +
      (if (readStationPage .ovens (Memory.page s.store.array 14)).isSome then 1 else 0))
    (by split <;> omega)).of_frame ?_ ?_ ?_ ?_ ?_ ?_ ?_
  all_goals simp [restoreSection]

theorem restoreCar_restored (s : State) : Restored 1 s (restoreCar s) := by
  refine (recordCounts_restored (s := s)
    (good := if (readStationPage .car (Memory.page s.store.array 14)).isSome then 1 else 0)
    (by split <;> omega)).of_frame ?_ ?_ ?_ ?_ ?_ ?_ ?_
  all_goals simp [restoreCar]

theorem restoreUnits_restored (role : Role) {s : State} (h : s.cfg.slotOvens.length = s.cfg.slotCount) :
    Restored (if role = .ovens then s.cfg.slotCount + 1 else 1) s (restoreUnits role s) := by
  cases role with
  | ovens => exact restoreSection_restored h
  | car => exact restoreCar_restored s

theorem restoreSection_units (s : State) :
    (restoreSection s).sched.ovens.map (·.number) = s.cfg.slotOvens ∧ (restoreSection s).door.length = s.cfg.slotCount ∧
    (restoreSection s).press.converting = some 0 ∧ (restoreSection s).press.scanTimer = some s.cfg.scanPeriod := by
  simp [restoreSection, restoreOvens_number]

theorem restoreCar_units (s : State) :
    (restoreCar s).car.state = s.car.state ∧ (restoreCar s).car.position = s.car.position ∧
    (s.cfg.carKind ≠ .quench → (restoreCar s).car.quench = .empty) := by
  refine ⟨by simp [restoreCar], by simp [restoreCar], fun hkind => ?_⟩
  simp [restoreCar, restoredQuench, hkind]

theorem readConfig_slotOvens_length (m : Memory) :
    (readConfig m).slotOvens.length = (readConfig m).slotCount := by
  simp [readConfig]

/-! ### The end of the start sequence -/

theorem enterJoining_line (startJoin : Bool) (s : State) :
    (enterJoining startJoin s).line = { s.line with state := .joining } := by
  simp only [enterJoining]
  split <;> rfl

theorem enterJoining_peer (startJoin : Bool) (s : State) :
    (enterJoining startJoin s).peer =
      { s.peer with
        joinTimer := some (1000 * (2 * s.cfg.standingPeriod)), startJoin := startJoin, choice := none, heard := false } := by
  simp only [enterJoining]
  split <;> rfl

/-- A section holds its list from the entry into JOINING on (R181). -/
theorem enterJoining_listHold (startJoin : Bool) {s : State} (h : s.resetRecord.role = .ovens) :
    (enterJoining startJoin s).press.listHold = some (1000 * s.cfg.aspirationTime) := by
  simp [enterJoining, h, startSeconds]

theorem endStart_joining (s : State) : (endStart s).line.state = .joining := by
  unfold endStart
  dsimp only
  split <;> simp [enterJoining_line]

theorem endStart_resetRecord (s : State) : (endStart s).resetRecord = s.resetRecord := by
  unfold endStart
  dsimp only
  split <;> simp

theorem offer_stopPin {s : State} (hs : s.line.state = .joining) (hq : s.line.q0 = []) :
    offer (.stop .stopPin) s = s.mapLine fun u => { u with q0 := [⟨.stop .stopPin, 0, false⟩] } := by
  simp only [offer, State.onLine, hs, Frame.cls, LineUnit.queue, hq, classCapacity]
  simp [LineUnit.setQueue, State.mapLine, hq, Queued.fresh]

theorem mapLine_q0_of_empty {s : State} (h : s.line.q0 = []) : (s.mapLine fun u => { u with q0 := [] }) = s := by
  rw [State.mapLine, ← h]

/-- With class 0 empty an asserted STOPN queues STOP, and nothing is dropped (R202). -/
theorem endStart_eq {s : State} (h : s.line.q0 = []) :
    endStart s =
      (enterJoining true (s.mapPanel fun u => { u with stopn := ⟨s.pins.stopnAsserted, none⟩ })).mapLine fun u =>
        { u with q0 := if s.pins.stopnAsserted then [⟨.stop .stopPin, 0, false⟩] else [] } := by
  rw [endStart]
  generalize hj : enterJoining true (s.mapPanel fun u => { u with stopn := ⟨s.pins.stopnAsserted, none⟩ }) = j
  have hline : j.line = { s.line with state := .joining } := by rw [← hj, enterJoining_line, mapPanel_line]
  have hpins : j.pins = s.pins := by simp [← hj]
  have hq : j.line.q0 = [] := by rw [hline, h]
  rw [hpins]
  cases s.pins.stopnAsserted with
  | true => exact offer_stopPin (by rw [hline]) hq
  | false => exact (mapLine_q0_of_empty hq).symm

theorem endStart_line {s : State} (h : s.line.q0 = []) :
    (endStart s).line =
      { s.line with
        state := .joining, q0 := if s.pins.stopnAsserted then [⟨.stop .stopPin, 0, false⟩] else [] } := by
  rw [endStart_eq h, mapLine_line, enterJoining_line, mapPanel_line]

theorem endStart_peer {s : State} (h : s.line.q0 = []) :
    (endStart s).peer =
      { s.peer with
        joinTimer := some (1000 * (2 * s.cfg.standingPeriod)), startJoin := true, choice := none, heard := false } := by
  rw [endStart_eq h, mapLine_peer, enterJoining_peer]
  rfl

theorem endStart_listHold {s : State} (h : s.line.q0 = []) (hrole : s.resetRecord.role = .ovens) :
    (endStart s).press.listHold = some (1000 * s.cfg.aspirationTime) := by
  rw [endStart_eq h, mapLine_press, enterJoining_listHold true (by simpa using hrole), mapPanel_cfg]

/-- What the end of the start sequence leaves alone, the accepted level of STOPN apart. -/
theorem endStart_frame {s : State} (h : s.line.q0 = []) :
    (endStart s).cfg = s.cfg ∧ (endStart s).store = s.store ∧ (endStart s).sched = s.sched ∧
    (endStart s).door = s.door ∧ (endStart s).press.converting = s.press.converting ∧
    (endStart s).press.scanTimer = s.press.scanTimer ∧ (endStart s).car = s.car ∧
    (endStart s).panel = { s.panel with stopn := ⟨s.pins.stopnAsserted, none⟩ } := by
  rw [endStart_eq h]
  simp

end Sys2Proof.Machine
end

section
open Sys2Proof Sys2Proof.Machine

/-- Settles O9: every reset is `resetStation`. -/
theorem resetTakesEffectAtOnce : Obligations.ResetTakesEffectAtOnce := by
  intro s quiet
  have hquiet : ∀ cause low, quiet (resetStation cause low s) := fun cause low =>
    ⟨output_of_not_running rfl, positioner_undriven (.inl rfl), rfl, ltx_of_no_attempt rfl,
      by simp [State.notice, resetStation, State.reset, PanelUnit.reset],
      resetStation_flag cause low s, resetStation_array cause low s⟩
  refine ⟨fun held => ?_, fun hp => ?_, fun hp => ?_, fun hr => ?_, fun hr => ?_⟩
  · exact ⟨_, rfl, resetStation_afterReset _ _ _, hquiet _ _⟩
  · refine ⟨_, ?_, resetStation_afterReset .pin true s, hquiet _ _⟩
    simp [exec, execRstnLow, hp]
  · simp [exec, execRstnLow, hp]
  · refine ⟨_, ?_, resetStation_afterReset .panel s.pins.rstnLow s, hquiet _ _⟩
    simp [exec, execRestartReset, hr]
  · simp [exec, execRestartReset, hr]

/-- Settles O10 by the three ends of the start sequence. -/
theorem startSamplesTheStraps : Obligations.StartSamplesTheStraps := by
  intro s roleHigh hs role
  refine ⟨⟨_, exec_startSequence hs, ?_⟩, fun stn hn => ⟨_, exec_startSequence hs, ?_⟩⟩
  · rw [startStation_strapHalt]
    exact ⟨rfl, rfl, fun hoff hrestored hbad => ⟨hoff, hrestored, hbad⟩, rfl, startHaltIn_halted _ _,
      fun e he => startHaltIn_otherFlag _ _ he, rfl, rfl, rfl, rfl, rfl, rfl, rfl, rfl⟩
  · cases hc : checkConfig role s.store.array with
    | some off =>
      rw [startStation_configHalt hn hc]
      exact ⟨rfl, rfl, nofun, fun _ => ⟨rfl, rfl⟩, nofun⟩
    | none =>
      have hrestored := restoreUnits_restored role
        (s := { sampleStraps roleHigh stn s with cfg := readConfig s.store.array })
        (readConfig_slotOvens_length s.store.array)
      obtain ⟨good, bad, hrecord, -⟩ := hrestored.identity
      rw [startStation_joins hn hc, endStart_resetRecord, endStart_joining]
      refine ⟨?_, ?_, nofun, fun hne => absurd rfl hne, fun _ => rfl⟩
      · exact congrArg ResetRecord.role hrecord
      · exact congrArg ResetRecord.station hrecord

/-- Settles O11: a failing block ends in a start halt; a passing one is restored from and joined with. -/
theorem startChecksTheBlockAndJoins : Obligations.StartChecksTheBlockAndJoins := by
  intro s roleHigh stn hline hn role c
  have hs : s.line.state = .inReset := by rw [hline]; rfl
  refine ⟨fun off hc => ⟨_, exec_startSequence hs, ?_⟩, fun hc => ⟨_, exec_startSequence hs, ?_⟩⟩
  · rw [startStation_configHalt hn hc]
    exact ⟨rfl, startHaltIn_halted _ _, rfl, rfl, rfl, rfl, rfl, rfl⟩
  · let base : State := { sampleStraps roleHigh stn s with cfg := c }
    have hjoins : startStation roleHigh stn s = endStart (restoreUnits role base) := startStation_joins hn hc
    have hrestored : Restored (if role = .ovens then c.slotCount + 1 else 1) base (restoreUnits role base) :=
      restoreUnits_restored role (s := base) (readConfig_slotOvens_length s.store.array)
    obtain ⟨good, bad, hrecord, hcount⟩ := hrestored.identity
    have hempty : (restoreUnits role base).line = LineUnit.reset := hrestored.line.trans hline
    have hq : (restoreUnits role base).line.q0 = [] := by rw [hempty]; rfl
    obtain ⟨hcfg, hstore, hsched, hdoor, hconverting, hscan, hcar, hpanel⟩ := endStart_frame hq
    have hpins : (restoreUnits role base).pins.stopnAsserted = s.pins.stopnAsserted := by rw [hrestored.pins]; rfl
    have hperiod : (restoreUnits role base).cfg = c := hrestored.cfg
    have hflag : ∀ e, (endStart (restoreUnits role base)).flag e = (restoreUnits role base).flag e := fun e =>
      flag_congr _ _ e (by rw [hpanel])
    rw [hjoins]
    simp only []
    rw [endStart_line hq, endStart_peer hq, endStart_resetRecord, hcfg, hsched, hdoor, hcar, hpanel, hconverting, hscan,
      hpins, hempty, hline, hrecord, hperiod]
    refine ⟨rfl, rfl, ?_, rfl, rfl, rfl, rfl, rfl, rfl, rfl, rfl, rfl, rfl, hcount, ?_, hrestored.table, rfl, rfl, rfl, rfl,
      rfl, fun hrole => ?_, fun hrole => ?_⟩
    · intro a
      rw [hstore, hrestored.store]
      rfl
    · rw [hflag]
      intro hbad
      exact hrestored.storeFault (by rw [hrecord]; exact hbad)
    · have hunits := restoreSection_units base
      have hhold := endStart_listHold hq (by rw [hrecord]; exact hrole)
      rw [hperiod] at hhold
      rw [hrole] at hhold ⊢
      obtain ⟨hovens, hdoors, hconv, hscan⟩ := hunits
      exact ⟨hovens, hdoors, hconv, hscan, hhold⟩
    · rw [hrole]
      exact restoreCar_units base

end

