-- ==== Sys2Proof/Proofs/Rejector.lean ====
section
/-! The noise rejector (R121, R152, R202): a change at a pin moves the level of its own line and the rejector that reads
it, and nothing else. -/

namespace Sys2Proof.Machine

/-! ### Levels at the pins -/

theorem setBit48_get (w : BitVec 48) {i : Nat} (h : i < 48) (b : Bool) : (setBit48 w i b).getLsbD i = b := by
  cases b <;> simp [setBit48, h]

theorem input_lt_of_lineHasPin {l : RejectLine} {i : Nat} (hl : lineHasPin l = true) (hi : l.input = some i) :
    i < 48 := by
  cases l with
  | latch slot side =>
    simp only [lineHasPin, between, Bool.and_eq_true, decide_eq_true_eq] at hl
    cases side <;> simp only [RejectLine.input, Option.some.injEq] at hi <;> omega
  | leak slot side =>
    simp only [lineHasPin, between, Bool.and_eq_true, decide_eq_true_eq] at hl
    cases side <;> simp only [RejectLine.input, Option.some.injEq] at hi <;> omega
  | marker => cases hi; omega
  | home => cases hi; omega
  | stopn => cases hi

/-- The pin takes the level (R1, R2). -/
theorem lineLevel_setLine {l : RejectLine} (hl : lineHasPin l = true) (b : Bool) (s : State) :
    (setLine l b s).lineLevel l = b := by
  unfold State.lineLevel setLine
  split
  · rename_i i hi
    exact setBit48_get _ (input_lt_of_lineHasPin hl hi) b
  · rfl

theorem lineLevel_congr {s t : State} (h : t.pins = s.pins) (l : RejectLine) : t.lineLevel l = s.lineLevel l := by
  simp only [State.lineLevel, State.input, h]

theorem rejected_setLine (l l' : RejectLine) (b : Bool) (s : State) : (setLine l b s).rejected l' = s.rejected l' := by
  unfold setLine
  split <;> rfl

/-! ### One rejector changed -/

theorem get_put (pair : DoorPair) (side side' : Side) (d : Door) :
    (pair.put side d).get side' = if side = side' then d else pair.get side' := by
  cases side <;> cases side' <;> rfl

theorem doorMapLine_state (l : DoorLine) (f : Rejected → Rejected) (d : Door) : (d.mapLine l f).state = d.state := by
  cases l <;> rfl

/-- A slot's rejected input changes within its own door, which keeps its state. -/
theorem mapDoorLine_eq {s : State} {slot k : Nat} {pair : DoorPair} (hk : s.slotIndex slot = some k)
    (hpair : s.door[k]? = some pair) (side : Side) (l : DoorLine) (f : Rejected → Rejected) :
    mapDoorLine slot side l f s = { s with door := s.door.set k (pair.put side ((pair.get side).mapLine l f)) } := by
  simp only [mapDoorLine, hk]
  refine changeDoor_eq k side _ s pair hpair ?_ ?_
  all_goals
    rw [doorMapLine_state]
    rintro ⟨h1, h2⟩
    simp_all

theorem doorState_mapDoorLine {s : State} {slot k : Nat} {pair : DoorPair} (hk : s.slotIndex slot = some k)
    (hpair : s.door[k]? = some pair) (side : Side) (l : DoorLine) (f : Rejected → Rejected) (k' : Nat) (side' : Side) :
    (mapDoorLine slot side l f s).doorState k' side' = s.doorState k' side' := by
  rw [mapDoorLine_eq hk hpair]
  simp only [State.doorState, List.getElem?_set]
  by_cases hk' : k = k'
  · subst hk'
    rw [if_pos rfl, if_pos (List.getElem?_eq_some_iff.1 hpair).1, hpair]
    simp only [get_put]
    split
    · rename_i hside
      rw [doorMapLine_state, hside]
    · rfl
  · rw [if_neg hk']

/-- The door that a slot's line is read at. -/
theorem doorAt_eq_some {s : State} {slot : Nat} {side : Side} {d : Door} (h : s.doorAt slot side = some d) :
    ∃ k pair, s.slotIndex slot = some k ∧ s.door[k]? = some pair ∧ pair.get side = d := by
  unfold State.doorAt at h
  split at h
  · rename_i k hk
    obtain ⟨pair, hpair, hd⟩ := Option.map_eq_some_iff.1 h
    exact ⟨k, pair, hk, hpair, hd⟩
  · cases h

theorem doorAt_mapDoorLine {s : State} {slot : Nat} {side : Side} {d : Door} (h : s.doorAt slot side = some d)
    (l : DoorLine) (f : Rejected → Rejected) :
    (mapDoorLine slot side l f s).doorAt slot side = some (d.mapLine l f) := by
  obtain ⟨k, pair, hk, hpair, rfl⟩ := doorAt_eq_some h
  have hlt := (List.getElem?_eq_some_iff.1 hpair).1
  have hk' : (mapDoorLine slot side l f s).slotIndex slot = some k := by
    rw [mapDoorLine_eq hk hpair]
    exact hk
  simp only [State.doorAt, hk']
  rw [mapDoorLine_eq hk hpair]
  simp [hlt, get_put]

/-- What a change at a pin leaves alone, the rejector of its line apart. -/
structure RejectorOnly (s t : State) : Prop where
  pins : t.pins = s.pins
  line : t.line = s.line
  ticket : t.ticket = s.ticket
  sched : t.sched = s.sched
  press : t.press = s.press
  events : t.panel.events = s.panel.events
  carState : t.car.state = s.car.state
  position : t.car.position = s.car.position
  queue : t.car.queue = s.car.queue
  doorState : ∀ k side, t.doorState k side = s.doorState k side

theorem mapDoorLine_rejectorOnly {s : State} {slot : Nat} {side : Side} {d : Door} (h : s.doorAt slot side = some d)
    (l : DoorLine) (f : Rejected → Rejected) : RejectorOnly s (mapDoorLine slot side l f s) := by
  obtain ⟨k, pair, hk, hpair, -⟩ := doorAt_eq_some h
  have heq := mapDoorLine_eq hk hpair side l f
  exact ⟨by rw [heq], by rw [heq], by rw [heq], by rw [heq], by rw [heq], by rw [heq], by rw [heq], by rw [heq], by rw [heq],
    doorState_mapDoorLine hk hpair side l f⟩

/-- The rejector of a line that is read takes the change, and nothing else does. -/
theorem mapRejected_spec {s : State} {l : RejectLine} {r : Rejected} (h : s.rejected l = some r)
    (f : Rejected → Rejected) :
    (mapRejected l f s).rejected l = some (f r) ∧ RejectorOnly s (mapRejected l f s) := by
  have hsection : ∀ slot side line, (mapDoorLine slot side line f s).sectionRuns = s.sectionRuns := by
    intro slot side line
    simp [State.sectionRuns, State.running]
  cases l with
  | latch slot side =>
    simp only [State.rejected, mapRejected, hsection] at h ⊢
    split at h
    · rename_i hruns
      obtain ⟨d, hd, rfl⟩ := Option.map_eq_some_iff.1 h
      simp only [hruns, doorAt_mapDoorLine hd, if_true]
      exact ⟨rfl, mapDoorLine_rejectorOnly hd _ f⟩
    · cases h
  | leak slot side =>
    simp only [State.rejected, mapRejected, hsection] at h ⊢
    split at h
    · rename_i hruns
      obtain ⟨d, hd, rfl⟩ := Option.map_eq_some_iff.1 h
      simp only [hruns, doorAt_mapDoorLine hd, if_true]
      exact ⟨rfl, mapDoorLine_rejectorOnly hd _ f⟩
    · cases h
  | marker =>
    simp only [State.rejected] at h
    split at h
    · rename_i hruns
      cases h
      exact ⟨if_pos hruns, ⟨rfl, rfl, rfl, rfl, rfl, rfl, rfl, rfl, rfl, fun _ _ => rfl⟩⟩
    · cases h
  | home =>
    simp only [State.rejected] at h
    split at h
    · rename_i hruns
      cases h
      exact ⟨if_pos hruns, ⟨rfl, rfl, rfl, rfl, rfl, rfl, rfl, rfl, rfl, fun _ _ => rfl⟩⟩
    · cases h
  | stopn =>
    simp only [State.rejected] at h
    split at h
    · rename_i hruns
      cases h
      exact ⟨if_pos hruns, ⟨rfl, rfl, rfl, rfl, rfl, rfl, rfl, rfl, rfl, fun _ _ => rfl⟩⟩
    · cases h

/-- Apart from its pin, a change at a line that is not read changes nothing. -/
theorem setLine_rejectorOnly (l : RejectLine) (b : Bool) (s : State) :
    RejectorOnly { s with pins := (setLine l b s).pins } (setLine l b s) := by
  unfold setLine
  split <;> exact ⟨rfl, rfl, rfl, rfl, rfl, rfl, rfl, rfl, rfl, fun _ _ => rfl⟩

/-! ### A change at a pin -/

theorem changeInput_ignored {s : State} {l : RejectLine} (level : Bool)
    (h : lineHasPin l = false ∨ s.otherRole l = true) : changeInput l level s = s := by
  have hnot : (lineHasPin l && !s.otherRole l) = false := by
    rcases h with h | h <;> simp [h]
  simp [changeInput, hnot]

theorem changeInput_unread {s : State} {l : RejectLine} (level : Bool) (hl : lineHasPin l = true)
    (ho : s.otherRole l = false) (hr : s.rejected l = none) : changeInput l level s = setLine l level s := by
  simp [changeInput, hl, ho, rejected_setLine, hr]

theorem changeInput_read {s : State} {l : RejectLine} {r : Rejected} (level : Bool) (hl : lineHasPin l = true)
    (ho : s.otherRole l = false) (hr : s.rejected l = some r) :
    changeInput l level s = mapRejected l (Rejected.change s.cfg.noiseReject level) (setLine l level s) := by
  simp [changeInput, hl, ho, rejected_setLine, hr]

end Sys2Proof.Machine
end

section
open Sys2Proof Sys2Proof.Machine

/-- Settles O31: the pin takes the level, and the rejector of a line that is read is changed alone. -/
theorem inputsPassTheRejector : Obligations.InputsPassTheRejector := by
  intro s l level
  refine ⟨fun hnot => ?_, fun hl ho => ⟨_, rfl, ?_⟩, fun hdue => ?_⟩
  · simp only [Ignored, exec, execFieldInputChange, changeInput_ignored level hnot]
  · have hpin := setLine_rejectorOnly l level s
    cases hr : s.rejected l with
    | none =>
      rw [changeInput_unread level hl ho hr]
      exact ⟨lineLevel_setLine hl level s, hpin.line, hpin.ticket, hpin.sched, hpin.press, hpin.events, hpin.carState,
        hpin.position, hpin.queue, hpin.doorState, fun _ => (rejected_setLine l l level s).trans hr, nofun⟩
    | some r =>
      obtain ⟨hnew, honly⟩ := mapRejected_spec ((rejected_setLine l l level s).trans hr)
        (Rejected.change s.cfg.noiseReject level)
      rw [changeInput_read level hl ho hr]
      refine ⟨(lineLevel_congr honly.pins l).trans (lineLevel_setLine hl level s), honly.line.trans hpin.line,
        honly.ticket.trans hpin.ticket, honly.sched.trans hpin.sched, honly.press.trans hpin.press,
        honly.events.trans hpin.events, honly.carState.trans hpin.carState, honly.position.trans hpin.position,
        honly.queue.trans hpin.queue, fun k side => (honly.doorState k side).trans (hpin.doorState k side), nofun, ?_⟩
      rintro _ ⟨⟩
      rw [hnew]
      refine ⟨fun he => ?_, fun hne ht => ?_, fun hne ht => ?_⟩
      · rw [Rejected.change, if_pos he]
      · rw [Rejected.change, if_neg hne, ht]
        rfl
      · rw [Rejected.change, if_neg hne, if_pos ht]
  · have hnot : s.changeDue l = false := by
      unfold State.changeDue
      split
      · rename_i r hr
        rcases hdue r hr with ht | he
        · simp [ht]
        · simp [he]
      · rfl
    simp only [Ignored, exec, execRejectTimerExpiry, hnot]
    rfl

end

