-- ==== Sys2Proof/Proofs/ConfigurationBlock.lean ====
section
/-! The check of a configuration block: the lowest failing offset (R5, R6), and what an accepted block holds. -/

namespace Sys2Proof.Machine

/-! ### The first failing offset -/

/-- A check at an offset fails. -/
def FailsAt (l : List (Nat × Bool)) (off : Nat) : Prop := ∃ x ∈ l, x.1 = off ∧ x.2 = false

theorem failsAt_cons (x : Nat × Bool) (l : List (Nat × Bool)) (off : Nat) :
    FailsAt (x :: l) off ↔ (x.1 = off ∧ x.2 = false) ∨ FailsAt l off := by
  simp [FailsAt]

/-- The check list is searched in rising order of offset, so that the first check that fails has the lowest offset. -/
theorem find_firstFailing (l : List (Nat × Bool)) (hl : (l.map (·.1)).Pairwise (· < ·)) (off : Nat) :
    (l.find? fun x => !x.2).map (·.1) = some off ↔ FailsAt l off ∧ ∀ a, a < off → ¬FailsAt l a := by
  induction l with
  | nil => simp [FailsAt]
  | cons x rest ih =>
    obtain ⟨a, b⟩ := x
    obtain ⟨hbelow, hrest⟩ := List.pairwise_cons.1 hl
    have hlater : ∀ a', FailsAt rest a' → a < a' := by
      rintro _ ⟨y, hy, rfl, -⟩
      exact hbelow _ (List.mem_map_of_mem hy)
    cases b with
    | true =>
      simp only [List.find?_cons_of_neg, Bool.not_true, failsAt_cons, reduceCtorEq, and_false, false_or,
        not_false_eq_true, ih hrest]
    | false =>
      simp only [List.find?_cons_of_pos, Bool.not_false, Option.map_some, Option.some.injEq, failsAt_cons, and_true]
      constructor
      · rintro rfl
        refine ⟨.inl rfl, fun a' ha' hf => ?_⟩
        rcases hf with rfl | hf
        · omega
        · have := hlater a' hf
          omega
      · rintro ⟨rfl | hf, hmin⟩
        · rfl
        · exact absurd (.inl rfl) (hmin a (hlater off hf))

theorem find_none (l : List (Nat × Bool)) :
    (l.find? fun x => !x.2).map (·.1) = none ↔ ∀ x ∈ l, x.2 = true := by
  simp

/-- The checks say what the fields of a list state, offset by offset; a check that always passes may have no field. -/
inductive ChecksAgree : List (Nat × Bool) → List (Nat × Prop) → Prop where
  | nil : ChecksAgree [] []
  | field {a : Nat} {b : Bool} {P : Prop} {l : List (Nat × Bool)} {p : List (Nat × Prop)} (h : b = true ↔ P)
      (rest : ChecksAgree l p) : ChecksAgree ((a, b) :: l) ((a, P) :: p)
  | always {a : Nat} {b : Bool} {l : List (Nat × Bool)} {p : List (Nat × Prop)} (h : b = true)
      (rest : ChecksAgree l p) : ChecksAgree ((a, b) :: l) p

theorem ChecksAgree.append {l l' : List (Nat × Bool)} {p p' : List (Nat × Prop)} (h : ChecksAgree l p)
    (h' : ChecksAgree l' p') : ChecksAgree (l ++ l') (p ++ p') := by
  induction h with
  | nil => exact h'
  | field hb _ ih => exact .field hb ih
  | always hb _ ih => exact .always hb ih

theorem ChecksAgree.failsAt_iff {l : List (Nat × Bool)} {p : List (Nat × Prop)} (h : ChecksAgree l p) (off : Nat) :
    FailsAt l off ↔ ∃ x ∈ p, x.1 = off ∧ ¬x.2 := by
  induction h with
  | nil => simp [FailsAt]
  | field hb _ ih => simp [failsAt_cons, ih, ← hb]
  | always hb _ ih => simp [failsAt_cons, ih, hb]

theorem ChecksAgree.pass_iff {l : List (Nat × Bool)} {p : List (Nat × Prop)} (h : ChecksAgree l p) :
    (∀ x ∈ l, x.2 = true) ↔ ∀ x ∈ p, x.2 := by
  induction h with
  | nil => simp
  | field hb _ ih => simp only [List.forall_mem_cons, ih, hb]
  | always hb _ ih => simp only [List.forall_mem_cons, ih, hb, true_and]

/-- The offsets of a role rise (R5). -/
theorem checksFor_rising (role : Role) (m : Memory) : ((checksFor role m).map (·.1)).Pairwise (· < ·) := by
  cases role with
  | ovens =>
    have hoffsets : (checksFor .ovens m).map (·.1) =
        [0, 1, 2, 3, 4, 8, 9, 10, 11, 12, 13, 14, 15, 16, 17, 18, 19, 21, 22, 24, 26, 27, 28, 29, 30, 31, 33, 34, 35, 36, 37,
          38, 39, 40, 41, 42, 43, 44, 46, 47, 49, 50, 51, 52, 53, 54, 55, 56, 57, 59, 61, 63] := rfl
    rw [hoffsets]
    decide
  | car =>
    have hoffsets : (checksFor .car m).map (·.1) =
        [0, 1, 2, 3, 4, 5, 64, 65, 66, 67, 68, 69, 70, 72, 74, 75, 76] := rfl
    rw [hoffsets]
    decide

theorem checkConfig_of_badSum {m : Memory} (h : cfgSum m ≠ 0) (role : Role) : checkConfig role m = some 95 := by
  rw [checkConfig, if_pos h]

theorem checkConfig_of_goodSum {m : Memory} (h : cfgSum m = 0) (role : Role) :
    checkConfig role m = ((checksFor role m).find? fun x => !x.2).map (·.1) := by
  rw [checkConfig, if_neg (Classical.not_not.2 h)]

/-- An accepted block has a good sum and passes every check of its role. -/
theorem checkConfig_accepted {role : Role} {m : Memory} (h : checkConfig role m = none) :
    cfgSum m = 0 ∧ ∀ x ∈ checksFor role m, x.2 = true := by
  have hsum : cfgSum m = 0 := by
    refine Classical.byContradiction fun hne => ?_
    rw [checkConfig_of_badSum hne] at h
    cases h
  rw [checkConfig_of_goodSum hsum, find_none] at h
  exact ⟨hsum, h⟩

/-! ### One check -/

theorem between_iff (lo hi v : Nat) : between lo hi v = true ↔ lo ≤ v ∧ v ≤ hi := by
  simp [between]

theorem betweenInt_iff (lo hi v : Int) : betweenInt lo hi v = true ↔ lo ≤ v ∧ v ≤ hi := by
  simp [betweenInt]

theorem cfgByte_le (m : Memory) (i : Nat) : cfgByte m i ≤ 255 := by
  have := (Memory.read m i).isLt
  rw [cfgByte]
  omega

theorem cfgWord_le (m : Memory) (i : Nat) : cfgWord m i ≤ 65535 := by
  have h1 := cfgByte_le m i
  have h2 := cfgByte_le m (i + 1)
  rw [cfgWord]
  omega

/-- A signed word within 500 Pa, by its unsigned value (R4). -/
theorem pascals_iff (m : Memory) (i : Nat) :
    betweenInt (-500) 500 (signed16 (cfgWord m i)) = true ↔ cfgWord m i ≤ 500 ∨ 65036 ≤ cfgWord m i := by
  have := cfgWord_le m i
  rw [betweenInt_iff, signed16]
  split <;> omega

/-- A channel offset within 7, by its unsigned value (R4). -/
theorem channelOffset_iff (m : Memory) (i : Nat) :
    betweenInt (-7) 7 (signed8 (cfgByte m i)) = true ↔ cfgByte m i ≤ 7 ∨ 249 ≤ cfgByte m i := by
  have := cfgByte_le m i
  rw [betweenInt_iff, signed8]
  split <;> omega

/-- The oven of the slot at index `i` (R5, R6). -/
theorem slotOvenOk_iff (m : Memory) (i : Nat) :
    slotOvenOk m (i + 1) = true ↔
      (i < cfgByte m 8 → (1 ≤ cfgByte m (9 + i) ∧ cfgByte m (9 + i) ≤ 120) ∧
        ∀ j, j < i → cfgByte m (9 + j) ≠ cfgByte m (9 + i)) ∧
      (cfgByte m 8 ≤ i → cfgByte m (9 + i) = 0) := by
  simp only [slotOvenOk, show 8 + (i + 1) = 9 + i by omega, Nat.add_sub_cancel]
  by_cases h : i < cfgByte m 8
  · rw [if_pos (by omega)]
    simp [ovenInRange, h, Nat.not_le.2 h]
  · rw [if_neg (by omega)]
    simp [h, Nat.not_lt.1 h]

/-! ### What an accepted block holds -/

/-- The slots of an accepted section block: their ovens are in range and differ, and the slots beyond the count name none
(R6). -/
theorem slotOvens_of_checks {m : Memory} (h : ∀ i, i < 8 → slotOvenOk m (i + 1) = true) (hcount : cfgByte m 8 ≤ 8) :
    (readConfig m).slotOvens.Nodup ∧ (∀ n ∈ (readConfig m).slotOvens, 1 ≤ n ∧ n ≤ 120) ∧
    ∀ i, cfgByte m 8 ≤ i → i < 8 → cfgByte m (9 + i) = 0 := by
  have hslot : ∀ i, i < cfgByte m 8 → (1 ≤ cfgByte m (9 + i) ∧ cfgByte m (9 + i) ≤ 120) ∧
      ∀ j, j < i → cfgByte m (9 + j) ≠ cfgByte m (9 + i) := fun i hi =>
    ((slotOvenOk_iff m i).1 (h i (by omega))).1 hi
  refine ⟨?_, ?_, fun i hi h8 => ((slotOvenOk_iff m i).1 (h i h8)).2 hi⟩
  · refine List.pairwise_map.2 (List.pairwise_lt_range.imp_of_mem fun _ hj hlt => ?_)
    exact (hslot _ (List.mem_range.1 hj)).2 _ hlt
  · intro n hn
    obtain ⟨i, hi, rfl⟩ := List.mem_map.1 hn
    exact (hslot i (List.mem_range.1 hi)).1

/-- The car kind that byte 5 names. -/
theorem carKind_of_code {m : Memory} (h : 1 ≤ cfgByte m 5 ∧ cfgByte m 5 ≤ 3) :
    cfgByte m 5 = 1 ∧ (readConfig m).carKind = .pusher ∨ cfgByte m 5 = 2 ∧ (readConfig m).carKind = .guide ∨
      cfgByte m 5 = 3 ∧ (readConfig m).carKind = .quench := by
  have hread : (readConfig m).carKind = kindOfCode (cfgByte m 5) := rfl
  obtain ⟨hlo, hhi⟩ := h
  rw [hread]
  have hcode : cfgByte m 5 = 1 ∨ cfgByte m 5 = 2 ∨ cfgByte m 5 = 3 := by omega
  rcases hcode with hcode | hcode | hcode
  · exact .inl ⟨hcode, by rw [hcode]; rfl⟩
  · exact .inr (.inl ⟨hcode, by rw [hcode]; rfl⟩)
  · exact .inr (.inr ⟨hcode, by rw [hcode]; rfl⟩)

/-! ### The table of R5 and R6 -/

/-- A signed word within 500 Pa, as an unsigned one. -/
def Pascals (m : Memory) (a : Nat) : Prop := cfgWord m a ≤ 500 ∨ 65036 ≤ cfgWord m a

/-- What the byte of the slot at index `i` may hold. -/
def slotField (m : Memory) (i : Nat) : Nat × Prop :=
  (9 + i, (i < cfgByte m 8 → (1 ≤ cfgByte m (9 + i) ∧ cfgByte m (9 + i) ≤ 120) ∧
      ∀ j, j < i → cfgByte m (9 + j) ≠ cfgByte m (9 + i)) ∧
    (cfgByte m 8 ≤ i → cfgByte m (9 + i) = 0))

/-- A byte's range. -/
def byteField (m : Memory) (lo hi a : Nat) : Nat × Prop := (a, lo ≤ cfgByte m a ∧ cfgByte m a ≤ hi)

/-- A word's range. -/
def wordField (m : Memory) (lo hi a : Nat) : Nat × Prop := (a, lo ≤ cfgWord m a ∧ cfgWord m a ≤ hi)

/-- The fields of either role. -/
def fieldsBoth (m : Memory) : List (Nat × Prop) :=
  [byteField m 1 10 0, byteField m 1 3 1, byteField m 4 32 2, byteField m 5 60 3, byteField m 1 15 4]

/-- The fields of a section. -/
def fieldsSection (m : Memory) : List (Nat × Prop) :=
  [byteField m 1 8 8, slotField m 0, slotField m 1, slotField m 2, slotField m 3, slotField m 4, slotField m 5,
    slotField m 6, slotField m 7, byteField m 2 9 17,
    (18, (1 ≤ cfgByte m 18 ∧ cfgByte m 18 ≤ cfgByte m 17 - 1) ∧ Nat.gcd (cfgByte m 18) (cfgByte m 17) = 1),
    wordField m 240 2400 19, byteField m 10 240 21, (22, Pascals m 22), (24, Pascals m 24), byteField m 1 50 26,
    (27, cfgByte m 27 ≤ 100), byteField m 2 60 28, (29, cfgByte m 29 ≤ 62),
    (30, (1 ≤ cfgByte m 30 ∧ cfgByte m 30 ≤ 63) ∧ cfgByte m 29 < cfgByte m 30), wordField m 100 1000 31] ++
  (List.range 9).map (fun i => (33 + i, cfgByte m (33 + i) ≤ 7 ∨ 249 ≤ cfgByte m (33 + i))) ++
  [byteField m 1 50 42, byteField m 5 120 43, (44, Pascals m 44), byteField m 1 3 46, wordField m 60 600 47,
    byteField m 10 120 49, (50, 1 ≤ cfgByte m 50), byteField m 1 8 51, (52, cfgByte m 52 ≤ 3), byteField m 5 60 53,
    byteField m 2 30 54, (55, cfgByte m 55 ≤ 1), byteField m 2 30 56, wordField m 60 1200 57, wordField m 30 300 59,
    wordField m 60 900 61, byteField m 10 120 63]

/-- The fields of a car; the park marker may be any byte. -/
def fieldsCar (m : Memory) : List (Nat × Prop) :=
  [byteField m 1 3 5, (64, 1 ≤ cfgByte m 64), byteField m 1 2 65, (66, 1 ≤ cfgByte m 66),
    (67, 1 ≤ cfgByte m 67 ∧ cfgByte m 67 ≠ cfgByte m 66), byteField m 5 60 69, wordField m 10 300 70,
    wordField m 30 300 72, byteField m 30 180 74, byteField m 10 120 75, wordField m 30 300 76]

/-- The fields of a role, in rising order of offset. -/
def fieldsFor (role : Role) (m : Memory) : List (Nat × Prop) :=
  fieldsBoth m ++ if role = .ovens then fieldsSection m else fieldsCar m

theorem atMost_iff (hi v : Nat) : between 0 hi v = true ↔ v ≤ hi := by
  simp [between]

theorem nonzeroByte_iff (m : Memory) (a : Nat) : between 1 255 (cfgByte m a) = true ↔ 1 ≤ cfgByte m a := by
  rw [between_iff]
  exact and_iff_left (cfgByte_le m a)

theorem checksBoth_agree (m : Memory) : ChecksAgree (checksBoth m) (fieldsBoth m) :=
  .field (between_iff _ _ _) <| .field (between_iff _ _ _) <| .field (between_iff _ _ _) <|
  .field (between_iff _ _ _) <| .field (between_iff _ _ _) .nil

theorem checksSection_agree (m : Memory) : ChecksAgree (checksMap m ++ checksPressure m ++ checksDoors m) (fieldsSection m) := by
  have hshift : (between 1 (cfgByte m 17 - 1) (cfgByte m 18) && (Nat.gcd (cfgByte m 18) (cfgByte m 17) == 1)) = true ↔
      (1 ≤ cfgByte m 18 ∧ cfgByte m 18 ≤ cfgByte m 17 - 1) ∧ Nat.gcd (cfgByte m 18) (cfgByte m 17) = 1 := by
    rw [Bool.and_eq_true, between_iff, beq_iff_eq]
  have hceiling : (between 1 63 (cfgByte m 30) && decide (cfgByte m 29 < cfgByte m 30)) = true ↔
      (1 ≤ cfgByte m 30 ∧ cfgByte m 30 ≤ 63) ∧ cfgByte m 29 < cfgByte m 30 := by
    rw [Bool.and_eq_true, between_iff, decide_eq_true_eq]
  have hbyte : ∀ lo hi a, between lo hi (cfgByte m a) = true ↔ (byteField m lo hi a).2 := fun _ _ _ => between_iff _ _ _
  have hword : ∀ lo hi a, between lo hi (cfgWord m a) = true ↔ (wordField m lo hi a).2 := fun _ _ _ => between_iff _ _ _
  have hslot : ∀ i, slotOvenOk m (i + 1) = true ↔ (slotField m i).2 := slotOvenOk_iff m
  have hpascals := pascals_iff m
  have hchannel := channelOffset_iff m
  have hnonzero := nonzeroByte_iff m
  exact
    .field (hbyte _ _ _) <| .field (hslot 0) <| .field (hslot 1) <| .field (hslot 2) <| .field (hslot 3) <|
    .field (hslot 4) <| .field (hslot 5) <| .field (hslot 6) <| .field (hslot 7) <| .field (hbyte _ _ _) <|
    .field hshift <| .field (hword _ _ _) <| .field (hbyte _ _ _) <| .field (hpascals _) <| .field (hpascals _) <|
    .field (hbyte _ _ _) <| .field (atMost_iff _ _) <| .field (hbyte _ _ _) <| .field (atMost_iff _ _) <|
    .field hceiling <| .field (hword _ _ _) <| .field (hchannel _) <| .field (hchannel _) <| .field (hchannel _) <|
    .field (hchannel _) <| .field (hchannel _) <| .field (hchannel _) <| .field (hchannel _) <| .field (hchannel _) <|
    .field (hchannel _) <| .field (hbyte _ _ _) <| .field (hbyte _ _ _) <| .field (hpascals _) <|
    .field (hbyte _ _ _) <| .field (hword _ _ _) <| .field (hbyte _ _ _) <| .field (hnonzero _) <|
    .field (hbyte _ _ _) <| .field (atMost_iff _ _) <| .field (hbyte _ _ _) <| .field (hbyte _ _ _) <|
    .field (atMost_iff _ _) <| .field (hbyte _ _ _) <| .field (hword _ _ _) <| .field (hword _ _ _) <|
    .field (hword _ _ _) <| .field (hbyte _ _ _) .nil

theorem checksCar_agree (m : Memory) : ChecksAgree (checksCar m) (fieldsCar m) := by
  have hwharf : (between 1 255 (cfgByte m 67) && (cfgByte m 67 != cfgByte m 66)) = true ↔
      1 ≤ cfgByte m 67 ∧ cfgByte m 67 ≠ cfgByte m 66 := by
    rw [Bool.and_eq_true, nonzeroByte_iff, bne_iff_ne]
  have hpark : between 0 255 (cfgByte m 68) = true := (atMost_iff _ _).2 (cfgByte_le m 68)
  exact
    .field (between_iff _ _ _) <| .field (nonzeroByte_iff _ _) <| .field (between_iff _ _ _) <|
    .field (nonzeroByte_iff _ _) <| .field hwharf <| .always hpark <| .field (between_iff _ _ _) <|
    .field (between_iff _ _ _) <| .field (between_iff _ _ _) <| .field (between_iff _ _ _) <|
    .field (between_iff _ _ _) <| .field (between_iff _ _ _) .nil

theorem checksFor_agree (role : Role) (m : Memory) : ChecksAgree (checksFor role m) (fieldsFor role m) := by
  cases role with
  | ovens =>
    have happend : checksFor .ovens m = checksBoth m ++ (checksMap m ++ checksPressure m ++ checksDoors m) := by
      simp only [checksFor, List.append_assoc]
    rw [happend]
    exact (checksBoth_agree m).append (checksSection_agree m)
  | car => exact (checksBoth_agree m).append (checksCar_agree m)

/-! ### What the check answers -/

theorem checkConfig_eq_none_iff {m : Memory} (hsum : cfgSum m = 0) (role : Role) :
    checkConfig role m = none ↔ ∀ x ∈ fieldsFor role m, x.2 := by
  rw [checkConfig_of_goodSum hsum, find_none, (checksFor_agree role m).pass_iff]

/-- A block is refused at its lowest field out of range. -/
theorem checkConfig_eq_some_iff {m : Memory} (hsum : cfgSum m = 0) (role : Role) (off : Nat) :
    checkConfig role m = some off ↔
      (∃ x ∈ fieldsFor role m, x.1 = off ∧ ¬x.2) ∧ ∀ x ∈ fieldsFor role m, x.1 < off → x.2 := by
  have hfails := (checksFor_agree role m).failsAt_iff
  rw [checkConfig_of_goodSum hsum, find_firstFailing _ (checksFor_rising role m), hfails]
  refine and_congr_right fun _ => ⟨fun h x hx hlt => ?_, fun h a ha hf => ?_⟩
  · refine Classical.byContradiction fun hne => ?_
    exact h x.1 hlt ((hfails _).2 ⟨x, hx, rfl, hne⟩)
  · obtain ⟨x, hx, rfl, hne⟩ := (hfails _).1 hf
    exact hne (h x hx ha)

theorem checkConfig_accepted_fields {role : Role} {m : Memory} (h : checkConfig role m = none) :
    cfgSum m = 0 ∧ ∀ x ∈ fieldsFor role m, x.2 := by
  obtain ⟨hsum, hall⟩ := checkConfig_accepted h
  exact ⟨hsum, (checksFor_agree role m).pass_iff.1 hall⟩

end Sys2Proof.Machine
end

section
open Sys2Proof Sys2Proof.Machine

/-- Settles O12: the checks of `checksFor` are the fields of R5 and the relations of R6, in rising order of offset. -/
theorem acceptedBlockIsInRange : Obligations.AcceptedBlockIsInRange := by
  intro m c
  refine ⟨fun role hsum => ⟨checkConfig_eq_none_iff hsum role, checkConfig_eq_some_iff hsum role⟩, ?_, ?_, ?_,
    fun role hsum => checkConfig_of_badSum hsum role⟩
  · intro role h
    obtain ⟨hsum, hall⟩ := checkConfig_accepted_fields h
    simp only [fieldsFor, fieldsBoth, List.forall_mem_append, List.forall_mem_cons] at hall
    obtain ⟨⟨h0, h1, h2, h3, h4, -⟩, -⟩ := hall
    exact ⟨hsum, h0, h1, h2, h3, h4⟩
  · intro h
    obtain ⟨-, hall⟩ := checkConfig_accepted_fields h
    simp only [fieldsFor, fieldsSection, List.forall_mem_append, List.forall_mem_cons, if_true, List.forall_mem_map] at hall
    obtain ⟨-, ⟨⟨h8, hs0, hs1, hs2, hs3, hs4, hs5, hs6, hs7, h17, h18, h19, h21, h22, h24, h26, h27, h28, h29, h30, h31, -⟩,
      h33⟩, h42, h43, h44, h46, h47, h49, h50, h51, h52, h53, h54, h55, h56, h57, h59, h61, h63, -⟩ := hall
    have hslots : ∀ i, i < 8 → slotOvenOk m (i + 1) = true := by
      intro i hi
      rw [slotOvenOk_iff]
      match i, hi with
      | 0, _ => exact hs0
      | 1, _ => exact hs1
      | 2, _ => exact hs2
      | 3, _ => exact hs3
      | 4, _ => exact hs4
      | 5, _ => exact hs5
      | 6, _ => exact hs6
      | 7, _ => exact hs7
    obtain ⟨hnodup, hrange, habove⟩ := slotOvens_of_checks hslots h8.2
    have hsigned : ∀ a, Pascals m a → -500 ≤ signed16 (cfgWord m a) ∧ signed16 (cfgWord m a) ≤ 500 := fun a ha =>
      (betweenInt_iff _ _ _).1 ((pascals_iff m a).2 ha)
    have hoffsets : ∀ v ∈ c.channelOffsets, -7 ≤ v ∧ v ≤ 7 := by
      intro v hv
      obtain ⟨i, hi, rfl⟩ := List.mem_map.1 hv
      exact (betweenInt_iff _ _ _).1 ((channelOffset_iff m _).2 (h33 i hi))
    exact ⟨h8, by simp [c, readConfig], hnodup, hrange, habove, h17, h18.1, h18.2, h19, h21, hsigned 22 h22, hsigned 24 h24,
      Int.ofNat_le.2 h26.1, Int.ofNat_le.2 h26.2, Int.natCast_nonneg _, Int.ofNat_le.2 h27, h28, h29, h30.1, h30.2, h31,
      by simp [c, readConfig], hoffsets, Int.ofNat_le.2 h42.1, Int.ofNat_le.2 h42.2, h43, hsigned 44 h44, h46, h47, h49,
      ⟨h50, cfgByte_le m 50⟩, h51, h52, h53, h54, h55, rfl, h56, h57, h59, h61, h63⟩
  · intro h
    obtain ⟨-, hall⟩ := checkConfig_accepted_fields h
    simp only [fieldsFor, fieldsCar, List.forall_mem_append, List.forall_mem_cons, reduceCtorEq, if_false] at hall
    obtain ⟨-, h5, h64, h65, h66, h67, h69, h70, h72, h74, h75, h76, -⟩ := hall
    exact ⟨carKind_of_code h5, ⟨h64, cfgByte_le m 64⟩, h65, ⟨h66, cfgByte_le m 66⟩, ⟨h67.1, cfgByte_le m 67⟩, h67.2,
      cfgByte_le m 68, h69, h70, h72, h74, h75, h76⟩

end

