-- ==== Sys2Proof/Proofs/EndOfEvent.lean ====
section
/-! What the judgements that end an event leave of the station (log 9): the ovens, the pressure unit and the car unit beside
what `finish_frame` says. -/

namespace Sys2Proof.Machine

/-- The state on which a section's store requests are made: what `finishSection` judges before it starts a write. -/
def sectionJudged (before : List Oven) (s : State) : State :=
  judgeClaim (judgePush (offerOvenFrames before s.sched.ovens (refreshOwnRoster (refreshDampers s))))

theorem finishSection_eq (before : List Oven) (s : State) : finishSection before s = flushStore (sectionJudged before s) := by
  simp [finishSection, sectionJudged]

theorem sectionJudged_judged (before : List Oven) (s : State) : JudgedSection s (sectionJudged before s) :=
  (refreshDampers_judged s).trans <| (refreshOwnRoster_judged _).trans <| (offerOvenFrames_judged _ _ _).trans <|
    (judgePush_judged _).trans (judgeClaim_judged _)

@[simp] theorem sectionJudged_frame (before : List Oven) (s : State) :
    (sectionJudged before s).peer = s.peer ∧ (sectionJudged before s).car = s.car ∧
    (sectionJudged before s).store.write = s.store.write ∧ (sectionJudged before s).press = (refreshDampers s).press := by
  simp [sectionJudged]

theorem flushStore_quiet (s : State) : Quiet s (flushStore s) := .of_eq (by simp) (by simp)

theorem finish_of_section {s : State} (hr : s.running = true) (hs : s.resetRecord.role = .ovens) (s0 : State) :
    finish s0 s = flushStore (sectionJudged s0.sched.ovens s) := by
  rw [finish, if_pos hr, hs, ← finishSection_eq]

theorem finish_of_car {s : State} (hr : s.running = true) (hc : s.resetRecord.role = .car) (s0 : State) :
    finish s0 s = flushStore (judgeCar (State.judgesRam s0 s) judgeCarFuel s) := by
  rw [finish, if_pos hr, hc, finishCar]

theorem finish_of_not_running {s : State} (hr : s.running = false) (s0 : State) : finish s0 s = s := by
  rw [finish, hr]
  rfl

/-- An event ends in one of three ways: at a station that does not run, at a section or at a car. -/
theorem finish_cases (P : State → Prop) (s0 s : State) (hstill : s.running = false → P s)
    (hsection : s.running = true → s.resetRecord.role = .ovens → P (flushStore (sectionJudged s0.sched.ovens s)))
    (hcar : s.running = true → s.resetRecord.role = .car →
      P (flushStore (judgeCar (State.judgesRam s0 s) judgeCarFuel s))) : P (finish s0 s) := by
  cases hr : s.running with
  | false =>
    rw [finish_of_not_running hr]
    exact hstill hr
  | true =>
    cases hrole : s.resetRecord.role with
    | ovens =>
      rw [finish_of_section hr hrole]
      exact hsection hr hrole
    | car =>
      rw [finish_of_car hr hrole]
      exact hcar hr hrole

theorem finish_quiet (s0 s : State) : Quiet s (finish s0 s) :=
  finish_cases (Quiet s) s0 s (fun _ => .refl s)
    (fun _ _ => (sectionJudged_judged _ s).quiet.trans (flushStore_quiet _))
    (fun _ _ => (judgeCar_judged _ _ s).quiet.trans (flushStore_quiet _))

theorem finish_press (s0 s : State) :
    (finish s0 s).press = { s.press with dampers := (finish s0 s).press.dampers } := by
  refine finish_cases (fun t => t.press = { s.press with dampers := t.press.dampers }) s0 s (fun _ => rfl) (fun _ _ => ?_)
    (fun _ _ => by simp)
  have hpress : (flushStore (sectionJudged s0.sched.ovens s)).press = (refreshDampers s).press := by simp
  rw [hpress]
  rfl

/-- An oven after the judgements: its claim-pending flag, and its saved line minute where its write starts (R62, R190). -/
def OvensJudged (s t : State) : Prop :=
  ∀ k o, s.sched.ovens[k]? = some o → ∃ pending minute,
    t.sched.ovens[k]? = some { o with pending := pending, savedMinute := minute } ∧
    (minute ≠ o.savedMinute → minute = s.peer.lineMinute ∧ s.peer.startJoin = false ∧ s.store.write = none ∧
      t.store.write.map (·.page) = some (6 + k)) ∧
    (s.resetRecord.role = .car → pending = o.pending)

/-- The store requests come last, on a state `u` that holds the ovens but for their claim-pending flags. -/
theorem flushStore_ovensJudged {s u : State} (hpeer : u.peer = s.peer) (hwrite : u.store.write = s.store.write)
    (hget : ∀ (k : Nat) (o : Oven), s.sched.ovens[k]? = some o → ∃ pending, u.sched.ovens[k]? = some { o with pending := pending } ∧
      (s.resetRecord.role = .car → pending = o.pending)) : OvensJudged s (flushStore u) := by
  intro k o ho
  obtain ⟨pending, hu, hcar⟩ := hget k o ho
  obtain ⟨minute, ht, hsaved⟩ := (flushStore_ovens u).2 k _ hu
  rw [hpeer, hwrite] at hsaved
  exact ⟨pending, minute, ht, hsaved, hcar⟩

theorem finish_ovens (s0 s : State) : OvensJudged s (finish s0 s) := by
  refine finish_cases (OvensJudged s) s0 s (fun _ => ?_) (fun _ hs => ?_) (fun _ _ => ?_)
  · exact fun k o ho => ⟨o.pending, o.savedMinute, ho, fun h => absurd rfl h, fun _ => rfl⟩
  · refine flushStore_ovensJudged (by simp) (by simp) fun k o ho => ?_
    obtain ⟨pending, hp⟩ := (sectionJudged_judged s0.sched.ovens s).get k o ho
    exact ⟨pending, hp, fun hc => by rw [hs] at hc; cases hc⟩
  · refine flushStore_ovensJudged (by simp) (by simp) fun k o ho => ⟨o.pending, ?_, fun _ => rfl⟩
    rw [(judgeCar_judged _ _ s).sched, ho]

theorem finish_ovens_length (s0 s : State) : (finish s0 s).sched.ovens.length = s.sched.ovens.length :=
  finish_cases (fun t => t.sched.ovens.length = s.sched.ovens.length) s0 s (fun _ => rfl)
    (fun _ _ => (flushStore_ovens _).1.trans (sectionJudged_judged _ s).length)
    (fun _ _ => (flushStore_ovens _).1.trans (by rw [(judgeCar_judged _ _ s).sched]))

/-- At a section the car unit and the frames kept after drops stand. -/
theorem finish_section (s0 s : State) (hs : s.resetRecord.role = .ovens) :
    (finish s0 s).car = s.car ∧ (finish s0 s).line.dropped = s.line.dropped := by
  refine finish_cases (fun t => t.car = s.car ∧ t.line.dropped = s.line.dropped) s0 s (fun _ => ⟨rfl, rfl⟩) (fun _ _ => ?_)
    (fun _ hc => by rw [hs] at hc; cases hc)
  have hdropped := (sectionJudged_judged s0.sched.ovens s).dropped
  simp [hdropped]

/-- At a car the roster, the dampers and the ticket unit stand. -/
theorem finish_car (s0 s : State) (hc : s.resetRecord.role = .car) :
    (finish s0 s).sched.roster = s.sched.roster ∧ (finish s0 s).press = s.press ∧ (finish s0 s).ticket = s.ticket := by
  refine finish_cases (fun t => t.sched.roster = s.sched.roster ∧ t.press = s.press ∧ t.ticket = s.ticket) s0 s
    (fun _ => ⟨rfl, rfl, rfl⟩) (fun _ hs => by rw [hs] at hc; cases hc) (fun _ _ => ?_)
  have hticket := (judgeCar_judged (State.judgesRam s0 s) judgeCarFuel s).ticket
  simp [hticket]

end Sys2Proof.Machine
end

section
open Sys2Proof Sys2Proof.Machine

/-- Settles O7: what `finish_frame` says of every unit, with the lemmas above for what depends on the role. -/
theorem judgementsKeepWhatTheyDoNotJudge : Obligations.JudgementsKeepWhatTheyDoNotJudge := by
  intro s0 s
  have hquiet := finish_quiet s0 s
  have hpress := finish_press s0 s
  refine ⟨?_, ?_, ?_, ?_, ?_, ?_, ?_, ?_, ?_, ?_, ?_, ?_, ?_, ?_, ?_, ?_, ?_, ?_, hpress, ?_, ?_, ?_, ?_, ?_,
    fun e => finish_flag e s0 s, hquiet.flags, ?_, hquiet.attempt, ?_, ?_, hquiet.standing, finish_ovens_length s0 s,
    finish_ovens s0 s, finish_section s0 s, finish_car s0 s, fun hr => finish_of_not_running hr s0⟩
  all_goals simp [samePush]

end

