-- ==== Sys2Proof/Proofs/Identity.lean ====
section
/-! What no command but a reset and a start changes: the sampled identity, the configuration in use, the array, the
panel's transaction and the absence of an own peer entry (R6, R39, R188, R197). -/

namespace Sys2Proof.Machine

/-! ### The relation -/

/-- The reset cause record, the configuration in use, the array and the panel's transaction stand, and an absent own peer
entry stays absent. -/
structure Kept (s t : State) : Prop where
  resetRecord : t.resetRecord = s.resetRecord
  cfg : t.cfg = s.cfg
  array : t.store.array = s.store.array
  transaction : t.panel.transaction = s.panel.transaction
  absent : s.peerAt s.own = Peer.absent → t.peerAt s.own = Peer.absent

theorem Kept.refl (s : State) : Kept s s := ⟨rfl, rfl, rfl, rfl, id⟩

theorem Kept.own {s t : State} (h : Kept s t) : t.own = s.own := by rw [State.own, h.resetRecord, State.own]

theorem Kept.trans {a b c : State} (h : Kept a b) (g : Kept b c) : Kept a c where
  resetRecord := g.resetRecord.trans h.resetRecord
  cfg := g.cfg.trans h.cfg
  array := g.array.trans h.array
  transaction := g.transaction.trans h.transaction
  absent ha := by
    have hb := g.absent (by rw [h.own]; exact h.absent ha)
    rwa [h.own] at hb

/-- All that an operation that leaves the peer table alone has to show. -/
theorem Kept.of_eq {s t : State} (h : t.resetRecord = s.resetRecord ∧ t.cfg = s.cfg ∧ t.store.array = s.store.array ∧
    t.panel.transaction = s.panel.transaction ∧ t.peer.table = s.peer.table) : Kept s t := by
  obtain ⟨hr, hc, ha, ht, hp⟩ := h
  refine ⟨hr, hc, ha, ht, fun habsent => ?_⟩
  rwa [State.peerAt, hp, ← State.peerAt]

theorem Kept.ite {s t u : State} {p : Prop} [Decidable p] (ht : p → Kept s t) (hu : ¬p → Kept s u) :
    Kept s (if p then t else u) := by
  split
  next hp => exact ht hp
  next hp => exact hu hp

/-- A command that takes effect under a condition, and otherwise changes nothing. -/
theorem Kept.guard {s t : State} {p : Prop} [Decidable p] (ht : Kept s t) : Kept s (if p then t else s) :=
  .ite (fun _ => ht) (fun _ => .refl s)

/-! ### Where the peer table changes -/

theorem peerAt_setPeer_of_ne {n m : Nat} (hn : 1 ≤ n) (hne : n ≠ m) (p : Peer) (s : State) :
    (setPeer n p s).peerAt m = s.peerAt m := by
  unfold State.peerAt
  split
  · rfl
  · have hindex : n - 1 ≠ m - 1 := by omega
    simp [setPeer, List.getD, List.getElem?_set_ne hindex]

theorem setPeer_kept {n : Nat} {s : State} (hn : 1 ≤ n) (hne : n ≠ s.own) (p : Peer) : Kept s (setPeer n p s) where
  resetRecord := rfl
  cfg := rfl
  array := rfl
  transaction := rfl
  absent ha := by rwa [peerAt_setPeer_of_ne hn hne]

/-- Entry into HALTED(DUPLICATE) stops the silence timers, which an absent entry does not have. -/
theorem enterDuplicate_kept (s : State) : Kept s (enterDuplicate s) := by
  refine ⟨by simp, by simp, by simp, by simp, fun ha => ?_⟩
  have htable : (enterDuplicate s).peer.table = s.peer.table.map fun p => { p with silence := none } := by
    simp [enterDuplicate]
  have hentry : ∀ n, (enterDuplicate s).peerAt n = { s.peerAt n with silence := none } := by
    intro n
    unfold State.peerAt
    split
    · rfl
    · rw [htable, List.getD_eq_getElem?_getD, List.getD_eq_getElem?_getD, List.getElem?_map]
      cases s.peer.table[n - 1]? <;> rfl
  rw [hentry, ha]
  rfl

theorem hearPeer_kept {src : Nat} {s : State} (h1 : 1 ≤ src) (hne : src ≠ s.own) (b : Standing) :
    Kept s (hearPeer src b s) := by
  have hdeparture : Kept s (if (s.peerAt src).departs b then departure src (s.peerAt src).role (s.peerAt src).kind s else s) :=
    .guard (.of_eq (by simp))
  have hconflict : ∀ before x, Kept x (conflictIf before x) := fun _ _ => .of_eq (by simp)
  exact hdeparture.trans ((setPeer_kept h1 (by rwa [hdeparture.own]) _).trans (hconflict _ _))

/-- A peer that lapses has a silence timer, so that it is not an absent own entry. -/
theorem lapsePeer_kept {n : Nat} {s : State} (hsilence : (s.peerAt n).silence.isSome = true) : Kept s (lapsePeer n s) := by
  by_cases hown : s.peerAt s.own = Peer.absent
  · have hne : n ≠ s.own := by
      rintro rfl
      rw [hown] at hsilence
      cases hsilence
    have h1 : 1 ≤ n := by
      rcases Nat.eq_zero_or_pos n with rfl | h
      · cases hsilence
      · exact h
    have hreported : ∀ x, Kept x (raise .peerLapsed (countLapse x)) := fun _ => .of_eq (by simp)
    exact (setPeer_kept h1 hne _).trans ((hreported _).trans (.guard (.of_eq (by simp))))
  · exact ⟨by simp, by simp, by simp, by simp, fun ha => absurd ha hown⟩

/-! ### The frames -/

theorem takeClaim_kept (src : Nat) (t : Ticket) (oven : Nat) (s : State) : Kept s (takeClaim src t oven s) := by
  unfold takeClaim
  refine .guard (.ite (fun _ => enterDuplicate_kept s) fun _ => .of_eq ?_)
  dsimp only
  (repeat' split) <;> simp

theorem takeAspirate_kept (src oven : Nat) (s : State) : Kept s (takeAspirate src oven s) := by
  unfold takeAspirate
  refine .ite (fun _ => .refl s) fun _ => .ite (fun _ => enterDuplicate_kept s) fun _ => .of_eq ?_
  dsimp only
  (repeat' split) <;> simp

theorem takeOven_kept (src oven : Nat) (summary : Summary) (minutes : Nat) (s : State) :
    Kept s (takeOven src oven summary minutes s) :=
  .ite (fun _ => .refl s) fun _ => .ite (fun _ => enterDuplicate_kept s) fun _ => .of_eq (by simp)

theorem takeStanding_kept {src : Nat} (h1 : 1 ≤ src) (b : Standing) (s : State) : Kept s (takeStanding src b s) :=
  .ite (fun _ => .refl s) fun hne => .ite (fun _ => enterDuplicate_kept s) fun _ =>
    (hearPeer_kept h1 hne b).trans (.of_eq (by simp))

/-! ### Events -/

theorem finish_kept (s0 s : State) : Kept s (finish s0 s) := .of_eq (by simp)

theorem event_kept {f : State → State} {s : State} (h : Kept s (f s)) : Kept s (event f s) := h.trans (finish_kept s _)

theorem inAttempt_kept {f : Attempt → State → State} {s : State} (h : ∀ a, Kept s (f a s)) : Kept s (inAttempt f s) := by
  unfold inAttempt
  split
  next a _ => exact event_kept (h a)
  next => exact .refl s

/-- A frame is taken from a source of 1 to 31, whether a peer's or the station's own returning. -/
theorem receive_kept {src : Nat} {f : Frame} {take : State → State} (h : 1 ≤ src → ∀ x, Kept x (take x)) (s : State) :
    Kept s (receive src f take s) := by
  have hgood : Kept s (countRxGood (endCutOff s)) := .of_eq (by simp [endCutOff])
  unfold receive
  refine .guard (.ite (fun hvalid => ?_) fun _ => .of_eq (by simp [endCutOff]))
  rw [Bool.and_eq_true] at hvalid
  have h1 : 1 ≤ src := ((between_iff _ _ _).1 hvalid.2).1
  have hcutOff : Kept s (endCutOff s) := .of_eq (by simp [endCutOff])
  refine .ite (fun _ => .ite (fun _ => .ite (fun _ => ?_) fun _ => ?_) fun _ => .ite (fun _ => ?_) fun _ => hgood) fun _ => hgood
  · exact hcutOff.trans (event_kept (Kept.trans (.of_eq (by simp)) (h h1 _)))
  · exact hgood.trans (event_kept (enterDuplicate_kept _))
  · exact hgood.trans (event_kept (h h1 _))

theorem doorEvent_kept (slot : Nat) (side : Side) (f : State → Door → Door) (s : State) :
    Kept s (doorEvent slot side f s) := by
  unfold doorEvent
  split
  next => exact .guard (event_kept (.of_eq (by simp)))
  next => exact .refl s

theorem carEvent_kept {due : Bool} {f : State → State} {s : State} (h : Kept s (f s)) : Kept s (carEvent due f s) :=
  .guard (event_kept h)

/-! ### Requests -/

theorem answer_kept (a : Answer) (s : State) : Kept s (answer a s) := .of_eq (by simp)

theorem answerData_kept (data : List Byte) (s : State) : Kept s (answerData data s) := .of_eq (by simp)

theorem accept_kept {f : State → State} {s : State} (h : Kept s (f s)) : Kept s (accept f s) :=
  (event_kept h).trans (answer_kept _ _)

theorem request_kept {belongs : Belongs} {servedInHalt countOk : Bool} {body : State → State} {s : State}
    (h : Kept s (body s)) : Kept s (request belongs servedInHalt countOk body s) :=
  .ite (fun _ => .ite (fun _ => .refl s) fun _ => answer_kept _ s) fun _ =>
    .ite (fun _ => answer_kept _ s) fun _ => .ite (fun _ => answer_kept _ s) fun _ =>
    .ite (fun _ => h) fun _ => answer_kept _ s

theorem forSlots_kept {f : Nat → State → State} (h : ∀ k s, Kept s (f k s)) (s : State) : Kept s (forSlots f s) :=
  List.foldlRecOn (motive := Kept s) _ _ (.refl s) fun _ ht k _ => ht.trans (h k _)

theorem withOwnOven_kept {oven : Nat} {body : Nat → Oven → State → State} {s : State} (h : ∀ k o, Kept s (body k o s)) :
    Kept s (withOwnOven oven body s) := by
  unfold withOwnOven
  (repeat' split)
  · exact answer_kept _ s
  · exact h _ _
  · exact answer_kept _ s

theorem setOven_kept (state remaining k : Nat) (o : Oven) (s : State) : Kept s (setOven state remaining k o s) :=
  .ite (fun _ => answer_kept _ s) fun _ => .ite (fun _ => answer_kept _ s) fun _ =>
    .ite (fun _ => answer_kept _ s) fun _ =>
    .ite (fun _ => accept_kept (.of_eq (by simp))) fun _ => answer_kept _ s

theorem takeOutOfService_kept (k : Nat) (o : Oven) (s : State) : Kept s (takeOutOfService k o s) :=
  .ite (fun _ => answer_kept _ s) fun _ => .ite (fun _ => answer_kept _ s) fun _ =>
    .ite (fun _ => answer_kept _ s) fun _ => accept_kept (.of_eq (by simp))

theorem beginCharge_kept (oven k : Nat) (o : Oven) (s : State) : Kept s (beginCharge oven k o s) :=
  .ite (fun _ => answer_kept _ s) fun _ => .ite (fun _ => answer_kept _ s) fun _ =>
    .ite (fun _ => answer_kept _ s) fun _ => .ite (fun _ => answer_kept _ s) fun _ =>
    .ite (fun _ => answer_kept _ s) fun _ => accept_kept (.of_eq (by simp))

theorem takeChargeEnd_kept (oven k : Nat) (o : Oven) (s : State) : Kept s (takeChargeEnd oven k o s) :=
  .ite (fun _ => answer_kept _ s) fun _ => .ite (fun _ => accept_kept (.of_eq (by simp))) fun _ => answer_kept _ s

theorem takeReseat_kept (side k : Nat) (s : State) : Kept s (takeReseat side k s) :=
  .ite (fun _ => answer_kept _ s) fun _ => .ite (fun _ => accept_kept (.of_eq (by simp))) fun _ => answer_kept _ s

theorem takeClearCar_kept (s : State) : Kept s (takeClearCar s) :=
  .ite (fun _ => answer_kept _ s) fun _ => .ite (fun _ => accept_kept (.of_eq (by simp))) fun _ => answer_kept _ s

theorem takeResolve_kept (outcome : Nat) (s : State) : Kept s (takeResolve outcome s) := by
  have hresolve : Kept s ((if outcome = 0 then resolvePushed else resolveNotPushed) s) := by
    split
    · exact .of_eq (by simp)
    · exact .of_eq (by simp)
  exact .ite (fun _ => answer_kept _ s) fun _ => .ite (fun _ => answer_kept _ s) fun _ =>
    .ite (fun _ => accept_kept hresolve) fun _ => answer_kept _ s

theorem takeBatteryStop_kept (s : State) : Kept s (takeBatteryStop s) :=
  .ite (fun _ => answer_kept _ s) fun _ => accept_kept (.of_eq (by simp))

theorem takeResumeRequest_kept (s : State) : Kept s (takeResumeRequest s) :=
  .ite (fun _ => answer_kept _ s) fun _ => .ite (fun _ => answer_kept _ s) fun _ => accept_kept (.of_eq (by simp))

theorem takeConfigWrite_kept (offset : Nat) (bytes : List Byte) (s : State) : Kept s (takeConfigWrite offset bytes s) :=
  .ite (fun _ => answer_kept _ s) fun _ => .ite (fun _ => answer_kept _ s) fun _ =>
    .ite (fun _ => answer_kept _ s) fun _ => Kept.trans (.of_eq (by simp)) (answer_kept _ _)

theorem readBlock_kept (offset count : Nat) (s : State) : Kept s (readBlock offset count s) :=
  .ite (fun _ => .ite (fun _ => .of_eq (by simp)) fun _ => answerData_kept _ s) fun _ => answer_kept _ s

theorem takeAck_kept (flags : BitVec 24) (s : State) : Kept s (takeAck flags s) :=
  .ite (fun _ => Kept.trans (.of_eq (by simp)) (answer_kept _ _)) fun _ => answer_kept _ s

theorem takeMask_kept (mask : BitVec 24) (s : State) : Kept s (takeMask mask s) :=
  .ite (fun _ => Kept.trans (.of_eq (by simp)) (answer_kept _ _)) fun _ => answer_kept _ s

theorem heldOven_kept (held : Bool) (k : Nat) (s : State) :
    Kept s (accept (changeOven k fun o => { o with held := held }) s) := accept_kept (.of_eq (by simp))

theorem confirmClock_kept (oven : Nat) (s : State) : Kept s (if oven = 0 then
    request (.only .ovens) false true (accept (forSlots fun k => changeOven k Oven.confirmed)) s
    else ovenRequest oven (fun k _ => accept (changeOven k Oven.confirmed)) s) :=
  .ite (fun _ => request_kept (accept_kept (forSlots_kept (fun _ _ => .of_eq (by simp)) s))) fun _ =>
    request_kept (withOwnOven_kept fun _ _ => accept_kept (.of_eq (by simp)))

/-- A panel request keeps them, whatever it is answered (R199). -/
theorem exec_asked_kept {c : Instr} {x : Belongs × Bool × Bool} (hc : c.asked = some x) {s t : State}
    (h : exec c s = .next t) : Kept s t := by
  cases c <;> cases hc <;> cases h
  case readStation => exact request_kept (answerData_kept _ s)
  case readPressure => exact request_kept (answerData_kept _ s)
  case readCar => exact request_kept (answerData_kept _ s)
  case readPeers => exact request_kept (answerData_kept _ s)
  case readTicket => exact request_kept (answerData_kept _ s)
  case readEvents => exact request_kept (answerData_kept _ s)
  case readOven => exact request_kept (withOwnOven_kept fun _ _ => answerData_kept _ s)
  case readDoors => exact request_kept (withOwnOven_kept fun _ _ => answerData_kept _ s)
  case readRoster => exact request_kept (.ite (fun _ => answerData_kept _ s) fun _ => answer_kept _ s)
  case readCounts => exact request_kept (.of_eq (by simp [takeCounts]))
  case configRead => exact request_kept (readBlock_kept _ _ s)
  case hold => exact request_kept (withOwnOven_kept fun _ _ => .ite (fun _ => answer_kept _ s) fun _ => heldOven_kept _ _ s)
  case release => exact request_kept (withOwnOven_kept fun _ _ => heldOven_kept _ _ s)
  case setTarget =>
    exact request_kept (withOwnOven_kept fun _ _ => .ite (fun _ => answer_kept _ s) fun _ =>
      .ite (fun _ => answer_kept _ s) fun _ => accept_kept (.of_eq (by simp)))
  case setOven => exact request_kept (withOwnOven_kept fun _ _ => setOven_kept _ _ _ _ s)
  case outOfService => exact request_kept (withOwnOven_kept fun _ _ => takeOutOfService_kept _ _ s)
  case returnToService =>
    exact request_kept (withOwnOven_kept fun _ _ => .ite (fun _ => accept_kept (.of_eq (by simp))) fun _ => answer_kept _ s)
  case confirmClock => exact confirmClock_kept _ s
  case chargeBegin => exact request_kept (withOwnOven_kept fun _ _ => beginCharge_kept _ _ _ s)
  case chargeEnd => exact request_kept (withOwnOven_kept fun _ _ => takeChargeEnd_kept _ _ _ s)
  case reseat => exact request_kept (withOwnOven_kept fun _ _ => takeReseat_kept _ _ s)
  case clearCar => exact request_kept (takeClearCar_kept s)
  case resolve => exact request_kept (takeResolve_kept _ s)
  case batteryStop => exact request_kept (takeBatteryStop_kept s)
  case resumeRequest => exact request_kept (takeResumeRequest_kept s)
  case configWrite => exact request_kept (takeConfigWrite_kept _ _ s)
  case restart => exact request_kept (Kept.trans (.of_eq (by simp)) (answer_kept _ _))
  case ackEvents => exact request_kept (takeAck_kept _ s)
  case setMask => exact request_kept (takeMask_kept _ s)
  case unknownRequest => exact request_kept (.refl s)

/-- So does a frame of the line (R19). -/
theorem exec_frame_kept {c : Instr} (hc : c.isFrame = true) {s t : State} (h : exec c s = .next t) : Kept s t := by
  cases c <;> cases hc <;> cases h
  case claimFrame => exact receive_kept (fun _ => takeClaim_kept _ _ _) s
  case aspirateFrame => exact receive_kept (fun _ => takeAspirate_kept _ _) s
  case ovenFrame => exact receive_kept (fun _ => takeOven_kept _ _ _ _) s
  case standingFrame => exact receive_kept (fun h1 => takeStanding_kept h1 _) s
  all_goals exact receive_kept (fun _ _ => .of_eq (by simp)) s

/-! ### The field lines and the pressure unit -/

theorem changeInput_kept (l : RejectLine) (level : Bool) (s : State) : Kept s (changeInput l level s) :=
  .guard (Kept.trans (.of_eq (by simp)) (.guard (.of_eq (by simp))))

theorem changeSeal_kept (slot : Nat) (side : Side) (level : Bool) (s : State) : Kept s (changeSeal slot side level s) :=
  .guard (Kept.trans (.of_eq (by simp)) (doorEvent_kept _ _ _ _))

theorem completeConversion_kept (raw : Raw) (s : State) : Kept s (completeConversion raw s) := by
  unfold completeConversion
  split
  next => exact event_kept (.of_eq (by simp))
  next => exact .refl s

theorem settleTimer_kept (slot : Nat) (s : State) : Kept s (match s.slotIndex slot with
    | some k => if s.sectionRuns then settleExpires k s else s
    | none => s) := by
  split
  next => exact .guard (.of_eq (by simp))
  next => exact .refl s

theorem silenceTimer_kept (n : Nat) (s : State) :
    Kept s (if s.onLine && (s.peerAt n).silence.isSome then event (lapsePeer n) s else s) := by
  split
  next hdue => exact event_kept (lapsePeer_kept (Bool.and_eq_true _ _ ▸ hdue).2)
  next => exact .refl s

/-- So does a command of the timers, the inputs and the station's own attempts. -/
theorem exec_other_kept {c : Instr} (hframe : c.isFrame = false) (hasked : c.asked = none) (hstarts : c.starts = false)
    (hreadback : ∀ m, c ≠ .storeReadback m) {s t : State} (h : exec c s = .next t) : Kept s t := by
  cases c <;> cases hframe <;> cases hasked <;> cases hstarts <;> cases h
  case storeReadback m => exact absurd rfl (hreadback m)
  case attemptStart => exact .of_eq (by simp)
  case arbitrationLost => exact inAttempt_kept fun _ => .of_eq (by simp)
  case transmitError => exact inAttempt_kept fun _ => .of_eq (by simp)
  case attemptComplete => exact inAttempt_kept fun _ => .of_eq (by simp)
  case receiveFault => exact .guard (.ite (fun _ => .of_eq (by simp [endCutOff])) fun _ => .of_eq (by simp [endCutOff]))
  case withdrawTimerExpiry => exact .guard (.of_eq (by simp))
  case silenceTimerExpiry => exact silenceTimer_kept _ s
  case standingPeriodExpiry => exact .guard (.of_eq (by simp))
  case fieldInputChange => exact changeInput_kept _ _ s
  case sealSwitchChange => exact changeSeal_kept _ _ _ s
  case inflateLimitExpiry => exact doorEvent_kept _ _ _ s
  case leakWindowExpiry => exact doorEvent_kept _ _ _ s
  case deflateTimerExpiry => exact doorEvent_kept _ _ _ s
  case scanTimerExpiry => exact .guard (.of_eq (by simp))
  case conversionComplete => exact .guard (completeConversion_kept _ s)
  case settleTimerExpiry => exact settleTimer_kept _ s
  case listHoldExpiry => exact .guard (.of_eq (by simp))
  case markerLimitExpiry => exact carEvent_kept (.of_eq (by simp))
  case actDone => exact carEvent_kept (.of_eq (by simp))
  case actFault => exact carEvent_kept (.of_eq (by simp))
  case actionLimitExpiry => exact carEvent_kept (.of_eq (by simp))
  case hotTravelLimitExpiry => exact carEvent_kept (.of_eq (by simp))
  case quenchTimerExpiry => exact carEvent_kept (.of_eq (by simp))
  case drainTimerExpiry => exact carEvent_kept (.of_eq (by simp))
  all_goals exact .guard (event_kept (.of_eq (by simp)))

/-- What each command but a reset, a start and a read-back keeps. -/
theorem exec_kept {c : Instr} (hstarts : c.starts = false) (hreadback : ∀ m, c ≠ .storeReadback m) {s t : State}
    (h : exec c s = .next t) : Kept s t := by
  cases hframe : c.isFrame with
  | true => exact exec_frame_kept hframe h
  | false =>
    cases hasked : c.asked with
    | some x => exact exec_asked_kept hasked h
    | none => exact exec_other_kept hframe hasked hstarts hreadback h

end Sys2Proof.Machine
end

section
open Sys2Proof Sys2Proof.Machine

/-- Settles O4: a read-back changes the array, and every other command but a reset and a start keeps it (`exec_kept`). -/
theorem identityAndArrayAreKept : Obligations.IdentityAndArrayAreKept := by
  intro c s t h hstarts
  by_cases hreadback : ∃ m, c = .storeReadback m
  · obtain ⟨m, rfl⟩ := hreadback
    cases h
    refine ⟨by simp, by simp, fun hne => absurd rfl (hne m), fun habsent => ?_⟩
    simpa [State.peerAt, State.own] using habsent
  · have hkept : Kept s t := exec_kept hstarts (fun m hm => hreadback ⟨m, hm⟩) h
    refine ⟨hkept.resetRecord, hkept.cfg, fun _ a => by rw [hkept.array], fun habsent => ?_⟩
    rw [hkept.own]
    exact hkept.absent habsent

end

