-- ==== Sys2Proof/Proofs/RequestBytes.lean ====
section
/-! Bits and bytes of the panel port (R195), and the requests they spell (R199): a well-formed request is read back from its
bytes, and from no shorter and no longer row of bytes. -/

namespace Sys2Proof.Machine

/-! ### Bits and numbers -/

@[simp] theorem toBits_length (n v : Nat) : (toBits n v).length = n := by
  induction n with
  | zero => rfl
  | succ n ih => rw [toBits, List.length_cons, ih]

theorem foldl_toBits (n v acc : Nat) :
    (toBits n v).foldl (fun acc b => 2 * acc + flagNat b) acc = acc * 2 ^ n + v % 2 ^ n := by
  induction n generalizing acc with
  | zero => simp [toBits, Nat.mod_one]
  | succ n ih =>
    have hbit : flagNat (v / 2 ^ n % 2 == 1) = v / 2 ^ n % 2 := by
      rcases Nat.mod_two_eq_zero_or_one (v / 2 ^ n) with h | h <;> rw [h] <;> rfl
    rw [toBits, List.foldl_cons, ih, hbit, Nat.mod_pow_succ]
    grind

/-- A number that fits is read back from its bits. -/
theorem ofBits_toBits {n v : Nat} (h : v < 2 ^ n) : ofBits (toBits n v) = v := by
  rw [ofBits, foldl_toBits, Nat.zero_mul, Nat.zero_add, Nat.mod_eq_of_lt h]

/-- The bits of a number are its digits, most significant first. -/
theorem toBits_eq_map_testBit (n v : Nat) : toBits n v = (List.range n).map fun i => v.testBit (n - 1 - i) := by
  induction n with
  | zero => rfl
  | succ n ih =>
    rw [toBits, ih, List.range_succ_eq_map, List.map_cons, List.map_map, Nat.testBit_eq_decide_div_mod_eq]
    refine congr (congrArg List.cons rfl) (List.map_congr_left fun i _ => ?_)
    rw [Function.comp_apply]
    congr 1
    omega

theorem toBits_byte (b : Byte) : toBits 8 b.toNat = (List.range 8).map fun i => b.getMsbD i := by
  rw [toBits_eq_map_testBit]
  refine List.map_congr_left fun i hi => ?_
  rw [BitVec.getMsbD, decide_eq_true (List.mem_range.1 hi), Bool.true_and]
  rfl

theorem foldl_toBytes (n v acc : Nat) :
    (toBytes n v).foldl (fun acc b => 256 * acc + b.toNat) acc = acc * 256 ^ n + v % 256 ^ n := by
  induction n generalizing acc with
  | zero => simp [toBytes, Nat.mod_one]
  | succ n ih =>
    have hdigit : (BitVec.ofNat 8 (v / 256 ^ n)).toNat = v / 256 ^ n % 256 := BitVec.toNat_ofNat _ _
    rw [toBytes, List.foldl_cons, ih, hdigit, Nat.mod_pow_succ (b := 256)]
    grind

/-- A number that fits is read back from its bytes. -/
theorem ofBytes_toBytes {n v : Nat} (h : v < 256 ^ n) : ofBytes (toBytes n v) = v := by
  rw [ofBytes, foldl_toBytes, Nat.zero_mul, Nat.zero_add, Nat.mod_eq_of_lt h]

theorem toNat_ofNat_byte {n : Nat} (h : n ≤ 255) : (BitVec.ofNat 8 n).toNat = n := by
  rw [BitVec.toNat_ofNat]
  omega

/-- Three bytes as one word. -/
theorem ofBytes_three (a b c : Byte) : BitVec.ofNat 24 (ofBytes [a, b, c]) = a ++ b ++ c := by
  have hb := b.isLt
  have hc := c.isLt
  have hnumber : ofBytes [a, b, c] = 256 * (256 * a.toNat + b.toNat) + c.toNat := by simp [ofBytes]
  have hword : (a ++ b ++ c).toNat = 256 * (256 * a.toNat + b.toNat) + c.toNat := by
    rw [BitVec.toNat_append, BitVec.toNat_append, ← Nat.shiftLeft_add_eq_or_of_lt hc,
      ← Nat.shiftLeft_add_eq_or_of_lt hb, Nat.shiftLeft_eq, Nat.shiftLeft_eq]
    grind
  rw [hnumber, ← hword, BitVec.ofNat_toNat, BitVec.setWidth_eq]

/-! ### Rows of bytes as rows of bits -/

@[simp] theorem byteBits_nil : byteBits [] = [] := rfl

@[simp] theorem byteBits_cons (b : Byte) (bytes : List Byte) :
    byteBits (b :: bytes) = toBits 8 b.toNat ++ byteBits bytes := rfl

@[simp] theorem byteBits_length (bytes : List Byte) : (byteBits bytes).length = 8 * bytes.length := by
  induction bytes with
  | nil => rfl
  | cons b bytes ih =>
    rw [byteBits_cons, List.length_append, toBits_length, ih, List.length_cons]
    omega

@[simp] theorem bitsBytes_length (n : Nat) (bits : List Bool) : (bitsBytes n bits).length = n := by
  induction n generalizing bits with
  | zero => rfl
  | succ n ih => rw [bitsBytes, List.length_cons, ih]

/-- The first byte among bits that begin with a byte. -/
theorem bitsBytes_toBits_append (n : Nat) (b : Byte) (bits : List Bool) :
    bitsBytes (n + 1) (toBits 8 b.toNat ++ bits) = b :: bitsBytes n bits := by
  have htake : (toBits 8 b.toNat ++ bits).take 8 = toBits 8 b.toNat := List.take_left' (toBits_length _ _)
  have hdrop : (toBits 8 b.toNat ++ bits).drop 8 = bits := List.drop_left' (toBits_length _ _)
  rw [bitsBytes, htake, hdrop, ofBits_toBits b.isLt, BitVec.ofNat_toNat, BitVec.setWidth_eq]

/-- Bytes are read back from their bits, whatever follows. -/
theorem bitsBytes_byteBits_append (bytes : List Byte) (n : Nat) (bits : List Bool) :
    bitsBytes (bytes.length + n) (byteBits bytes ++ bits) = bytes ++ bitsBytes n bits := by
  induction bytes with
  | nil => rw [List.length_nil, Nat.zero_add, byteBits_nil, List.nil_append, List.nil_append]
  | cons b bytes ih =>
    rw [List.length_cons, Nat.succ_add, byteBits_cons, List.append_assoc, bitsBytes_toBits_append, ih, List.cons_append]

/-- Bytes that are whole already stand when more bits follow. -/
theorem bitsBytes_append {n : Nat} {bits : List Bool} (h : 8 * n ≤ bits.length) (more : List Bool) :
    bitsBytes n (bits ++ more) = bitsBytes n bits := by
  induction n generalizing bits with
  | zero => rfl
  | succ n ih =>
    have h8 : 8 ≤ bits.length := by omega
    have hdrop : 8 * n ≤ (bits.drop 8).length := by
      rw [List.length_drop]
      omega
    rw [bitsBytes, bitsBytes, List.take_append_of_le_length h8, List.drop_append_of_le_length h8, ih hdrop]

/-- One byte more is one byte at the end. -/
theorem bitsBytes_succ_eq (n : Nat) (bits : List Bool) : ∃ b, bitsBytes (n + 1) bits = bitsBytes n bits ++ [b] := by
  induction n generalizing bits with
  | zero => exact ⟨_, rfl⟩
  | succ n ih =>
    obtain ⟨b, hb⟩ := ih (bits.drop 8)
    exact ⟨b, by rw [bitsBytes, hb, bitsBytes, List.cons_append]⟩

/-- The bits of the first bytes of a row spell those bytes. -/
theorem bitsBytes_of_firstBits {bytes : List Byte} {bits rest : List Bool} (h : byteBits bytes = bits ++ rest) {n : Nat}
    (hn : 8 * n ≤ bits.length) : bitsBytes n bits = bytes.take n := by
  have hle : n ≤ bytes.length := by
    have hlength := congrArg List.length h
    rw [byteBits_length, List.length_append] at hlength
    omega
  have hsplit : byteBits bytes = byteBits (bytes.take n) ++ byteBits (bytes.drop n) := by
    rw [byteBits, byteBits, byteBits, ← List.flatMap_append, List.take_append_drop]
  have hcount : n = (bytes.take n).length + 0 := by rw [List.length_take, Nat.min_eq_left hle, Nat.add_zero]
  calc bitsBytes n bits = bitsBytes n (bits ++ rest) := (bitsBytes_append hn rest).symm
    _ = bitsBytes n (byteBits (bytes.take n) ++ byteBits (bytes.drop n)) := by rw [← h, hsplit]
    _ = bitsBytes ((bytes.take n).length + 0) (byteBits (bytes.take n) ++ byteBits (bytes.drop n)) := by rw [← hcount]
    _ = bytes.take n := by rw [bitsBytes_byteBits_append, bitsBytes, List.append_nil]

/-! ### Requests as bytes -/

theorem takenRequest_cons (code n : Byte) (params : List Byte) : takenRequest (code :: n :: params) =
    if params.length = n.toNat then some (requestOf code.toNat params) else none := rfl

/-- What makes a row of bytes a request: its second byte counts the bytes after it (R195). -/
theorem takenRequest_eq_some {bytes : List Byte} {c : Instr} (h : takenRequest bytes = some c) :
    ∃ code n params, bytes = code :: n :: params ∧ params.length = n.toNat ∧ requestOf code.toNat params = c := by
  match bytes, h with
  | code :: n :: params, h =>
    rw [takenRequest_cons] at h
    split at h
    next hlength => exact ⟨code, n, params, rfl, hlength, Option.some.inj h⟩
    next => cases h

/-- No shorter row of bytes is a request, and no longer one. -/
theorem takenRequest_take {bytes : List Byte} {c : Instr} (h : takenRequest bytes = some c) {n : Nat}
    (hn : n < bytes.length) : takenRequest (bytes.take n) = none := by
  obtain ⟨code, count, params, rfl, hlength, -⟩ := takenRequest_eq_some h
  match n, hn with
  | 0, _ => rfl
  | 1, _ => rfl
  | n + 2, hn =>
    rw [List.length_cons, List.length_cons] at hn
    rw [List.take_succ_cons, List.take_succ_cons, takenRequest_cons, if_neg]
    rw [List.length_take]
    omega

theorem takenRequest_append {bytes : List Byte} {c : Instr} (h : takenRequest bytes = some c) (b : Byte)
    (more : List Byte) : takenRequest (bytes ++ b :: more) = none := by
  obtain ⟨code, count, params, rfl, hlength, -⟩ := takenRequest_eq_some h
  rw [List.cons_append, List.cons_append, takenRequest_cons, if_neg]
  rw [List.length_append, List.length_cons]
  omega

theorem requestOf_configWrite (offset b : Byte) (bytes : List Byte) : requestOf 30 (offset :: b :: bytes) =
    if bytes.length < 16 then .configWrite offset.toNat (b :: bytes) else .unknownRequest 30 (bytes.length + 2) := rfl

/-- A code or a count that R199 does not give makes an unknown request (R196): the table, row by row. -/
theorem requestOf_unknown {code : Nat} {params : List Byte} (h : requestTakes code params.length = false) :
    requestOf code params = .unknownRequest code params.length := by
  match code with
  | 30 =>
    match params with
    | [] | [_] => rfl
    | offset :: b :: more =>
      have hcount : within 2 17 (more.length + 2) = false := h
      simp only [within, Bool.and_eq_false_iff, decide_eq_false_iff_not] at hcount
      rw [requestOf_configWrite, if_neg (by omega)]
      rfl
  | 0 | 1 | 2 | 3 | 4 | 5 | 6 | 7 | 8 | 9 | 10 | 11 | 12 | 13 | 14 | 15 | 16 | 17 | 18 | 19 | 20 | 21 | 22 | 23 | 24 | 25 | 26 | 27 | 28
  | 29 | 31 | 32 | 33 | _ + 34 =>
    match params with
    | [] | [_] | [_, _] | [_, _, _] | [_, _, _, _] | _ :: _ :: _ :: _ :: _ :: _ => cases h <;> rfl

/-- Every code and parameters make a request that the panel port carries out. -/
theorem requestOf_asked (code : Nat) (params : List Byte) : ∃ x, (requestOf code params).asked = some x := by
  match code with
  | 30 =>
    match params with
    | [] | [_] => exact ⟨_, rfl⟩
    | offset :: b :: more =>
      rw [requestOf_configWrite]
      split
      next => exact ⟨_, rfl⟩
      next => exact ⟨_, rfl⟩
  | 0 | 1 | 2 | 3 | 4 | 5 | 6 | 7 | 8 | 9 | 10 | 11 | 12 | 13 | 14 | 15 | 16 | 17 | 18 | 19 | 20 | 21 | 22 | 23 | 24 | 25 | 26 | 27 | 28
  | 29 | 31 | 32 | 33 | _ + 34 =>
    match params with
    | [] | [_] | [_, _] | [_, _, _] | [_, _, _, _] | _ :: _ :: _ :: _ :: _ :: _ => exact ⟨_, rfl⟩

/-! ### A well-formed request is read back -/

theorem byteOk_iff (n : Nat) : byteOk n = true ↔ n ≤ 255 := by
  simp [byteOk, Sys2Proof.within]

theorem wordOk_iff (n : Nat) : wordOk n = true ↔ n ≤ 65535 := by
  simp [wordOk, Sys2Proof.within]

/-- A byte-sized parameter is read back. -/
theorem toBytes_one {n : Nat} (h : byteOk n = true) : ∃ b : Byte, toBytes 1 n = [b] ∧ b.toNat = n :=
  ⟨BitVec.ofNat 8 n, by simp [toBytes], toNat_ofNat_byte ((byteOk_iff n).1 h)⟩

/-- A word-sized parameter is read back. -/
theorem toBytes_two {n : Nat} (h : wordOk n = true) : ∃ hi lo : Byte, toBytes 2 n = [hi, lo] ∧ ofBytes [hi, lo] = n := by
  refine ⟨_, _, rfl, ?_⟩
  have hn := (wordOk_iff n).1 h
  exact ofBytes_toBytes (n := 2) (by omega)

theorem toBytes_flags (w : BitVec 24) :
    ∃ a b c : Byte, toBytes 3 w.toNat = [a, b, c] ∧ BitVec.ofNat 24 (ofBytes [a, b, c]) = w := by
  refine ⟨_, _, _, rfl, ?_⟩
  have hword : ofBytes (toBytes 3 w.toNat) = w.toNat := ofBytes_toBytes w.isLt
  exact (congrArg _ hword).trans (by rw [BitVec.ofNat_toNat, BitVec.setWidth_eq])

/-- The code of a well-formed request fits a byte, so does its parameter count, and they give back the request. -/
theorem requestOf_requestParts {c : Instr} (hwf : c.wf = true) {code : Nat} {params : List Byte}
    (h : requestParts c = some (code, params)) : code ≤ 255 ∧ params.length ≤ 255 ∧ requestOf code params = c := by
  cases c <;> cases h
  case readOven oven | readDoors oven | hold oven | release oven | outOfService oven | returnToService oven
      | confirmClock oven | chargeBegin oven | chargeEnd oven | resolve oven =>
    obtain ⟨b, hb, rfl⟩ := toBytes_one (n := oven) hwf
    rw [hb]
    exact ⟨by decide, by simp, rfl⟩
  case readRoster x y | configRead x y | reseat x y =>
    obtain ⟨hx, hy⟩ := (Bool.and_eq_true _ _).mp hwf
    obtain ⟨b, hb, rfl⟩ := toBytes_one (n := x) hx
    obtain ⟨d, hd, rfl⟩ := toBytes_one (n := y) hy
    rw [hb, hd]
    exact ⟨by decide, by simp, rfl⟩
  case setTarget oven target =>
    obtain ⟨hx, hy⟩ := (Bool.and_eq_true _ _).mp hwf
    obtain ⟨b, hb, rfl⟩ := toBytes_one (n := oven) hx
    obtain ⟨hi, lo, hword, rfl⟩ := toBytes_two (n := target) hy
    rw [hb, hword]
    exact ⟨by decide, by simp, rfl⟩
  case setOven oven state remaining =>
    obtain ⟨hxy, hz⟩ := (Bool.and_eq_true _ _).mp hwf
    obtain ⟨hx, hy⟩ := (Bool.and_eq_true _ _).mp hxy
    obtain ⟨b, hb, rfl⟩ := toBytes_one (n := oven) hx
    obtain ⟨d, hd, rfl⟩ := toBytes_one (n := state) hy
    obtain ⟨hi, lo, hword, rfl⟩ := toBytes_two (n := remaining) hz
    rw [hb, hd, hword]
    exact ⟨by decide, by simp, rfl⟩
  case configWrite offset bytes =>
    obtain ⟨hx, hcount⟩ := (Bool.and_eq_true _ _).mp hwf
    obtain ⟨b, hb, rfl⟩ := toBytes_one (n := offset) hx
    simp only [Sys2Proof.within, Bool.and_eq_true, decide_eq_true_eq] at hcount
    rw [hb]
    match bytes, hcount with
    | d :: more, hcount =>
      rw [List.length_cons] at hcount
      refine ⟨by decide, by simp; omega, ?_⟩
      rw [List.singleton_append, requestOf_configWrite, if_pos (by omega)]
  case ackEvents flags =>
    obtain ⟨x, y, z, hbytes, hflags⟩ := toBytes_flags flags
    rw [hbytes]
    exact ⟨by decide, by simp, congrArg Instr.ackEvents hflags⟩
  case setMask mask =>
    obtain ⟨x, y, z, hbytes, hmask⟩ := toBytes_flags mask
    rw [hbytes]
    exact ⟨by decide, by simp, congrArg Instr.setMask hmask⟩
  case unknownRequest count =>
    obtain ⟨hbounds, htakes⟩ := (Bool.and_eq_true _ _).mp hwf
    obtain ⟨hcode, hcount⟩ := (Bool.and_eq_true _ _).mp hbounds
    have hlength : (List.replicate count (0 : Byte)).length = count := List.length_replicate
    refine ⟨(byteOk_iff _).1 hcode, Nat.le_trans (Nat.le_of_eq hlength) ((byteOk_iff _).1 hcount), ?_⟩
    rw [requestOf_unknown, hlength]
    rw [hlength]
    exact Bool.not_eq_true' _ ▸ htakes
  all_goals exact ⟨by decide, by decide, rfl⟩

/-- A well-formed request is taken from its bytes (R195, R199). -/
theorem takenRequest_requestBytes {c : Instr} (hwf : c.wf = true) {bytes : List Byte} (h : requestBytes c = some bytes) :
    takenRequest bytes = some c := by
  obtain ⟨⟨code, params⟩, hparts, rfl⟩ := Option.map_eq_some_iff.1 h
  obtain ⟨hcode, hcount, hrequest⟩ := requestOf_requestParts hwf hparts
  have hbytes : ∀ n, toBytes 1 n = [BitVec.ofNat 8 n] := fun n => by simp [toBytes]
  rw [hbytes, hbytes]
  show takenRequest (BitVec.ofNat 8 code :: BitVec.ofNat 8 params.length :: params) = some c
  rw [takenRequest_cons, toNat_ofNat_byte hcode, toNat_ofNat_byte hcount, if_pos rfl, hrequest]

end Sys2Proof.Machine
end

