-- ==== Sys2Proof/Proofs/PanelEdges.lean ====
section
/-! The panel port edge by edge (R195, R199): a transaction samples PSDI, takes its request with the last bit of the request's
last byte, and shows the answer after it. -/

namespace Sys2Proof.Machine

/-! ### A transaction under way -/

/-- The state with a transaction that has sampled these bits and shows this bit. -/
def sampling (s : State) (bits : List Bool) (shown : Nat) : State :=
  { s with panel := { s.panel with transaction := some ⟨bits, shown⟩ } }

theorem sampling_self {s : State} {t : Transaction} (h : s.panel.transaction = some t) : sampling s t.bits t.shown = s := by
  rw [sampling, ← h]

theorem psckRise_sampling_of_no_request {s : State} {bits : List Bool} {shown : Nat} {b : Bool}
    (h : Transaction.request ⟨bits ++ [b], shown⟩ = none) :
    (sampling s bits shown).psckRise b = .next (sampling s (bits ++ [b]) shown) :=
  psckRise_of_no_request (s := sampling s bits shown) (t := ⟨bits, shown⟩) rfl h

theorem psckRise_sampling_of_request {s : State} {bits : List Bool} {shown : Nat} {b : Bool} {c : Instr}
    (h : Transaction.request ⟨bits ++ [b], shown⟩ = some c) :
    (sampling s bits shown).psckRise b = exec c (sampling s (bits ++ [b]) shown) :=
  psckRise_of_request (s := sampling s bits shown) (t := ⟨bits, shown⟩) rfl h

theorem psckFall_sampling (s : State) (bits : List Bool) (shown : Nat) :
    (sampling s bits shown).psckFall = sampling s bits bits.length := rfl

/-! ### The table of requests -/

theorem ofBytes_two (a b : Byte) : ofBytes [a, b] = 256 * a.toNat + b.toNat := by
  simp [ofBytes]

/-! ### Which bits make a request -/

theorem request_of_ragged {t : Transaction} (h : t.bits.length % 8 ≠ 0) : t.request = none := if_neg h

/-- The bits of a request's bytes, with fewer than eight after them, hold those bytes. -/
theorem bytes_of_byteBits {bytes : List Byte} {part : List Bool} (hpart : part.length < 8) (shown : Nat) :
    Transaction.bytes ⟨byteBits bytes ++ part, shown⟩ = bytes := by
  have hcount : (byteBits bytes ++ part).length / 8 = bytes.length + 0 := by
    rw [List.length_append, byteBits_length]
    omega
  rw [Transaction.bytes, hcount, bitsBytes_byteBits_append, bitsBytes, List.append_nil]

/-- The bits of the whole request make it. -/
theorem request_of_byteBits {bytes : List Byte} {c : Instr} (h : takenRequest bytes = some c) (shown : Nat) :
    Transaction.request ⟨byteBits bytes, shown⟩ = some c := by
  have hbytes : Transaction.bytes ⟨byteBits bytes, shown⟩ = bytes := by
    have := bytes_of_byteBits (bytes := bytes) (part := []) (by decide) shown
    rwa [List.append_nil] at this
  rw [Transaction.request, if_pos, hbytes, h]
  show (byteBits bytes).length % 8 = 0
  rw [byteBits_length, Nat.mul_mod_right]

/-- Fewer bits make none. -/
theorem request_of_firstBits {bytes : List Byte} {c : Instr} (h : takenRequest bytes = some c) {bits rest : List Bool}
    (hbits : byteBits bytes = bits ++ rest) (hrest : rest ≠ []) (shown : Nat) :
    Transaction.request ⟨bits, shown⟩ = none := by
  have hlength := congrArg List.length hbits
  rw [byteBits_length, List.length_append] at hlength
  have hpos : 0 < rest.length := List.length_pos_iff.2 hrest
  have hbytes : Transaction.bytes ⟨bits, shown⟩ = bytes.take (bits.length / 8) :=
    bitsBytes_of_firstBits hbits (Nat.mul_div_le _ _)
  rw [Transaction.request, hbytes, takenRequest_take h (by omega), ite_self]

/-- More bits make none either. -/
theorem request_of_longer {bytes : List Byte} {c : Instr} (h : takenRequest bytes = some c) {more : List Bool}
    (hmore : more ≠ []) (shown : Nat) : Transaction.request ⟨byteBits bytes ++ more, shown⟩ = none := by
  have hpos : 0 < more.length := List.length_pos_iff.2 hmore
  have hlength : (byteBits bytes ++ more).length = 8 * bytes.length + more.length := by
    rw [List.length_append, byteBits_length]
  by_cases hwhole : more.length % 8 = 0
  · obtain ⟨k, hk⟩ : ∃ k, more.length / 8 = k + 1 := Nat.exists_eq_add_of_le' (by omega)
    have hcount : (byteBits bytes ++ more).length / 8 = bytes.length + (k + 1) := by omega
    have hbytes : Transaction.bytes ⟨byteBits bytes ++ more, shown⟩ = bytes ++ bitsBytes (k + 1) more := by
      rw [Transaction.bytes, hcount, bitsBytes_byteBits_append]
    rw [Transaction.request, hbytes, bitsBytes, takenRequest_append h, ite_self]
  · refine request_of_ragged (t := ⟨byteBits bytes ++ more, shown⟩) ?_
    show (byteBits bytes ++ more).length % 8 ≠ 0
    omega

/-! ### Clocking a request in -/

/-- The bits of a request before its last one are sampled, and nothing else happens. -/
theorem clockIn_of_firstBits {bytes : List Byte} {c : Instr} (h : takenRequest bytes = some c) (s : State)
    {lead rest : List Bool} (hrest : rest ≠ []) {done : List Bool} (hbits : byteBits bytes = done ++ (lead ++ rest)) :
    State.clockIn lead (sampling s done done.length) = .next (sampling s (done ++ lead) (done ++ lead).length) := by
  induction lead generalizing done with
  | nil => rw [List.append_nil]; rfl
  | cons b lead ih =>
    have hsplit : byteBits bytes = (done ++ [b]) ++ (lead ++ rest) := by
      rw [hbits, List.append_assoc, List.singleton_append, List.cons_append]
    have hnone := request_of_firstBits h hsplit (by simp [hrest]) done.length
    rw [State.clockIn, psckRise_sampling_of_no_request hnone, andThen_next, psckFall_sampling, ih hsplit,
      List.append_assoc, List.singleton_append]

/-- The same from the start of a transaction. -/
theorem clockIn_from_start {bytes : List Byte} {c : Instr} (h : takenRequest bytes = some c) {s : State}
    (hs : s.panel.transaction = some ⟨[], 0⟩) {lead rest : List Bool} (hrest : rest ≠ [])
    (hbits : byteBits bytes = lead ++ rest) : State.clockIn lead s = .next (sampling s lead lead.length) := by
  have hclock := clockIn_of_firstBits h s hrest (done := []) hbits
  rwa [List.nil_append, List.length_nil, sampling_self hs] at hclock

/-! ### The end of a transaction -/

theorem deselectPanel_of_restart {s : State} (h : s.panel.restartPending = true) :
    ∃ t, s.deselectPanel = .next t ∧ afterReset .panel s.pins.rstnLow s t ∧ arrayAcrossReset s t := by
  let ended := s.mapPanel fun u => { u with transaction := none, reply := none }
  have hrestart : s.deselectPanel = .next (resetStation .panel s.pins.rstnLow ended) := congrArg _ (if_pos h)
  exact ⟨_, hrestart, resetStation_afterReset _ _ ended, resetStation_array _ _ ended⟩

/-- What a reset leaves depends on the waiting commands and the pins alone. -/
theorem afterReset_congr {s u t : State} {cause : ResetCause} {low : Bool} (hpending : u.pending = s.pending)
    (hpins : u.pins = s.pins) (h : afterReset cause low u t) : afterReset cause low s t := by
  rwa [afterReset, hpending, hpins] at h

theorem arrayAcrossReset_congr {s u t : State} (hstore : u.store = s.store) (h : arrayAcrossReset u t) :
    arrayAcrossReset s t := by
  rwa [arrayAcrossReset, sameArray, hstore] at h

/-- A RESTART given from the start of a transaction is answered and waits for its end (R7, R199). -/
theorem clockIn_restart {s u : State} (hs : s.line.state ≠ .inReset) (htransaction : s.panel.transaction = some ⟨[], 0⟩)
    (h : State.clockIn (byteBits [31, 0]) s = .next u) :
    u.panel.reply = some ⟨.accepted, []⟩ ∧ u.panel.restartPending = true ∧ u.pending = s.pending ∧ u.pins = s.pins ∧
      u.store = s.store := by
  have htaken : takenRequest [31, 0] = some .restart := rfl
  obtain ⟨lead, hbits⟩ : ∃ lead, byteBits [31, 0] = lead ++ [false] := ⟨(byteBits [31, 0]).dropLast, rfl⟩
  have hlead := clockIn_from_start htaken htransaction (List.cons_ne_nil _ _) hbits
  have hrequest := request_of_byteBits htaken lead.length
  rw [hbits] at hrequest
  rw [hbits, clockIn_append, hlead, andThen_next, State.clockIn, psckRise_sampling_of_request hrequest] at h
  have hcarried : exec .restart (sampling s (lead ++ [false]) lead.length) =
      .next (takeRestart (sampling s (lead ++ [false]) lead.length)) :=
    congrArg Host.Outcome.next (request_takenAnywhere (s := sampling s (lead ++ [false]) lead.length) hs)
  rw [hcarried] at h
  cases h
  exact ⟨rfl, rfl, rfl, rfl, rfl⟩

/-! ### The level of PSDO -/

theorem psdo_of_no_transaction {s : State} (h : s.panel.transaction = none) : s.psdo = none := by
  rw [State.psdo, h, Option.map_none]

/-- Until the parameter count is in, and while there is no answer, PSDO shows 0. -/
theorem psdo_of_nothing_to_show {s : State} {t : Transaction} (ht : s.panel.transaction = some t)
    (h : t.bits.length < 16 ∨ s.panel.reply = none) : s.psdo = some false := by
  rw [State.psdo, ht, Option.map_some]
  congr 1
  split
  next code n more r hbytes hreply =>
    have hlength := congrArg List.length hbytes
    rw [Transaction.bytes, bitsBytes_length, List.length_cons, List.length_cons] at hlength
    rcases h with h | h
    · omega
    · rw [h] at hreply
      cases hreply
  next => rfl

/-- Once the parameter count is in, PSDO shows a bit of the answer. -/
theorem psdo_of_reply {s : State} {t : Transaction} (ht : s.panel.transaction = some t) {code n : Byte} {more : List Byte}
    (hbytes : t.bytes = code :: n :: more) {r : Reply} (hr : s.panel.reply = some r) :
    s.psdo = some (r.bitAt n.toNat t.shown) := by
  rw [State.psdo, ht, Option.map_some, hbytes, hr]

theorem getMsbD_zero_byte (i : Nat) : (0 : Byte).getMsbD i = false := by
  simp [BitVec.getMsbD]

/-- Up to byte n + 1 PSDO shows 0 (R195). -/
theorem psdo_of_early {s : State} {t : Transaction} (ht : s.panel.transaction = some t)
    (hearly : ∀ code n more, t.bytes = code :: n :: more → t.shown / 8 ≤ n.toNat + 1) : s.psdo = some false := by
  rw [State.psdo, ht, Option.map_some]
  congr 1
  split
  next code n more r hbytes _ =>
    rw [Reply.bitAt, Reply.byteAt, if_pos (hearly code n more hbytes), getMsbD_zero_byte]
  next => rfl

/-- PSDO depends on the answer, the bit shown and the first two bytes, where those are in. -/
theorem psdo_congr {s u : State} {t t' : Transaction} (ht : s.panel.transaction = some t)
    (hu : u.panel.transaction = some t') (hreply : u.panel.reply = s.panel.reply) (hshown : t'.shown = t.shown)
    {code n : Byte} {more more' : List Byte} (hbytes : t.bytes = code :: n :: more)
    (hbytes' : t'.bytes = code :: n :: more') : u.psdo = s.psdo := by
  rw [State.psdo, State.psdo, ht, hu, hreply, Option.map_some, Option.map_some, hbytes, hbytes', hshown]
  cases s.panel.reply <;> rfl

theorem bytes_length (t : Transaction) : t.bytes.length = t.bits.length / 8 := bitsBytes_length _ _

/-- A bit more leaves the whole bytes, or adds one at their end. -/
theorem bytes_append_bit (t : Transaction) (b : Bool) :
    ∃ extra, Transaction.bytes { t with bits := t.bits ++ [b] } = t.bytes ++ extra := by
  have hsame : bitsBytes (t.bits.length / 8) (t.bits ++ [b]) = t.bytes := bitsBytes_append (Nat.mul_div_le _ _) _
  have hcount : (t.bits ++ [b]).length / 8 = t.bits.length / 8 ∨ (t.bits ++ [b]).length / 8 = t.bits.length / 8 + 1 := by
    rw [List.length_append, List.length_singleton]
    omega
  rw [Transaction.bytes]
  rcases hcount with h | h
  · exact ⟨[], by rw [h, hsame, List.append_nil]⟩
  · obtain ⟨last, hlast⟩ := bitsBytes_succ_eq (t.bits.length / 8) (t.bits ++ [b])
    exact ⟨[last], by rw [h, hlast, hsame]⟩

/-- PSDO stands at a rising edge (R195): a request that the edge carries out is answered only after byte n + 1. -/
theorem psdo_of_psckRise {s u : State} {t : Transaction} {b : Bool} (ht : s.panel.transaction = some t)
    (hshown : t.shown ≤ t.bits.length) (h : s.psckRise b = .next u) : u.psdo = s.psdo := by
  obtain ⟨extra, hextra⟩ := bytes_append_bit t b
  cases hrequest : Transaction.request { t with bits := t.bits ++ [b] } with
  | none =>
    rw [psckRise_of_no_request ht hrequest] at h
    cases h
    match hbytes : t.bytes with
    | code :: n :: more =>
      refine psdo_congr ht rfl rfl rfl hbytes ?_ (more' := more ++ extra)
      rw [hextra, hbytes, List.cons_append, List.cons_append]
    | [] | [_] =>
      have hlength := bytes_length t
      rw [hbytes] at hlength
      simp only [List.length_nil, List.length_singleton] at hlength
      rw [psdo_of_nothing_to_show ht (.inl (by omega))]
      refine psdo_of_early (t := { t with bits := t.bits ++ [b] }) rfl fun _ n _ _ => ?_
      show t.shown / 8 ≤ n.toNat + 1
      omega
  | some c =>
    rw [psckRise_of_request ht hrequest] at h
    have hwhole : (t.bits ++ [b]).length % 8 = 0 := by
      refine Classical.byContradiction fun hragged => ?_
      rw [request_of_ragged (t := { t with bits := t.bits ++ [b] }) hragged] at hrequest
      cases hrequest
    rw [Transaction.request, if_pos hwhole] at hrequest
    obtain ⟨code, n, params, hbytes, hparams, rfl⟩ := takenRequest_eq_some hrequest
    obtain ⟨x, hasked⟩ := requestOf_asked code.toNat params
    have htransaction := (exec_asked_kept hasked h).transaction
    have hlength := bytes_length { t with bits := t.bits ++ [b] }
    rw [hbytes, List.length_cons, List.length_cons, hparams] at hlength
    rw [List.length_append, List.length_singleton] at hlength hwhole
    have hearly : t.shown / 8 ≤ n.toNat + 1 := by omega
    have hbefore : s.psdo = some false := by
      refine psdo_of_early ht fun code' n' more hcode => ?_
      rw [hcode, List.cons_append, List.cons_append, hbytes] at hextra
      cases hextra
      exact hearly
    rw [hbefore]
    refine psdo_of_early (t := { t with bits := t.bits ++ [b] }) htransaction fun code' n' more hcode => ?_
    rw [hbytes] at hcode
    cases hcode
    exact hearly

/-! ### The bytes of an answer -/

/-- Bit `i` of byte `k` is shown from byte `k` of the answer's transaction, most significant bit first. -/
theorem psdo_of_byteBits {s : State} {code n : Byte} {more : List Byte} {part : List Bool} {r : Reply} {k i : Nat}
    (hs : s.panel.transaction = some ⟨byteBits (code :: n :: more) ++ part, 8 * k + i⟩) (hpart : part.length < 8)
    (hi : i < 8) (hr : s.panel.reply = some r) : s.psdo = some ((r.byteAt n.toNat k).getMsbD i) := by
  rw [psdo_of_reply hs (bytes_of_byteBits hpart _) hr, Reply.bitAt, Nat.mul_add_div (by decide), Nat.div_eq_of_lt hi,
    Nat.mul_add_mod, Nat.mod_eq_of_lt hi, Nat.add_zero]

theorem byteAt_early {n k : Nat} (h : k < n + 2) (r : Reply) : r.byteAt n k = 0 := if_pos (by omega)

/-- From byte n + 2 on PSDO shows the answer's bytes. -/
theorem byteAt_answer (n j : Nat) (r : Reply) : r.byteAt n (n + 2 + j) = r.bytes.getD j 0 := by
  rw [Reply.byteAt, if_neg (by omega), Nat.add_sub_cancel_left]

/-- The answer byte, the length in two bytes, then the data. -/
theorem reply_bytes (r : Reply) : r.bytes =
    BitVec.ofNat 8 r.answer.code :: BitVec.ofNat 8 (r.data.length / 256) :: BitVec.ofNat 8 r.data.length :: r.data := by
  simp [Reply.bytes, toBytes]

end Sys2Proof.Machine
end

section
open Sys2Proof Sys2Proof.Machine

/-- Settles O44: the requests of the table by evaluation, the edges by `clockIn_from_start` and the lemmas on PSDO. -/
theorem requestsAreTakenFromTheirBytes : Obligations.RequestsAreTakenFromTheirBytes := by
  refine ⟨fun c bytes hwf hbytes => ?_, ?_, ?_, ?_, rfl, fun s t ht => ⟨?_, psdo_of_nothing_to_show ht, fun b u => ?_⟩, fun s => ?_⟩
  · have htaken := takenRequest_requestBytes hwf hbytes
    refine ⟨htaken, fun n hn => takenRequest_take htaken hn, takenRequest_append htaken,
      fun s lead b rest hs hbits => ⟨clockIn_from_start htaken hs (List.cons_ne_nil b rest) hbits, ?_⟩,
      fun s more shown b hs => ?_⟩
    · split
      next hlast =>
        subst hlast
        exact psckRise_sampling_of_request (hbits ▸ request_of_byteBits htaken lead.length)
      next hrest =>
        refine psckRise_sampling_of_no_request (request_of_firstBits htaken (rest := rest) ?_ hrest _)
        rw [hbits, List.append_assoc, List.singleton_append]
    · refine psckRise_of_no_request (t := ⟨byteBits bytes ++ more, shown⟩) hs ?_
      rw [List.append_assoc]
      exact request_of_longer htaken (by simp) shown
  · intro bytes
    rw [byteBits]
    exact congrArg (fun f => bytes.flatMap f) (funext toBits_byte)
  · intro a b c d is word
    have htarget : is 18 [a, b, c] (.setTarget a.toNat (word b c)) :=
      congrArg (fun n => some (Instr.setTarget a.toNat n)) (ofBytes_two b c)
    have hoven : is 19 [a, b, c, d] (.setOven a.toNat b.toNat (word c d)) :=
      congrArg (fun n => some (Instr.setOven a.toNat b.toNat n)) (ofBytes_two c d)
    have hack : is 32 [a, b, c] (.ackEvents (a ++ b ++ c)) :=
      congrArg (fun w => some (Instr.ackEvents w)) (ofBytes_three a b c)
    have hmask : is 33 [a, b, c] (.setMask (a ++ b ++ c)) := congrArg (fun w => some (Instr.setMask w)) (ofBytes_three a b c)
    exact ⟨rfl, rfl, rfl, rfl, rfl, rfl, rfl, rfl, rfl, rfl, rfl, rfl, rfl, htarget, hoven, rfl, rfl, rfl, rfl, rfl, rfl, rfl,
      rfl, rfl, rfl, rfl, rfl, rfl, hack, hmask, rfl, rfl, rfl⟩
  · intro s code n more part r k i hs hpart hi hr _
    have hshows : ∀ b, r.byteAt n.toNat k = b → s.psdo = some (b.getMsbD i) := fun b hb => by
      rw [psdo_of_byteBits hs hpart hi hr, hb]
    have hanswer : ∀ j b, k = n.toNat + 2 + j → r.bytes.getD j 0 = b → s.psdo = some (b.getMsbD i) :=
      fun j b hk hb => hshows b (by rw [hk, byteAt_answer, hb])
    rw [reply_bytes] at hanswer
    refine ⟨fun hk => hshows 0 (byteAt_early hk r), fun hk => hanswer 0 _ hk rfl, fun hk => hanswer 1 _ hk rfl,
      fun hk => hanswer 2 _ hk rfl, fun j b hj hk => hanswer (3 + j) b (by omega) ?_, fun hk => ?_⟩
    · rw [Nat.add_comm 3 j, List.getD_cons_succ, List.getD_cons_succ, List.getD_cons_succ, List.getD_eq_getElem?_getD, hj]
      rfl
    · obtain ⟨j, rfl⟩ := Nat.exists_eq_add_of_le hk
      refine hanswer (3 + r.data.length + j) 0 (by omega) ?_
      rw [List.getD_eq_getElem?_getD, List.getElem?_eq_none, Option.getD_none]
      simp only [List.length_cons]
      omega
  · rw [State.psckFall, State.mapPanel, ht]
    rfl
  · exact psdo_of_psckRise ht
  · refine ⟨fun hs => ⟨psdo_of_no_transaction hs, psckFall_of_no_transaction hs, fun b => psckRise_of_no_transaction b hs⟩,
      fun hs => if_neg ?_, fun hreset hlow => if_pos ⟨hreset, hlow⟩, fun hs => deselectPanel_of_no_restart hs,
      deselectPanel_of_restart, fun u hs htransaction hclock => ?_⟩
    · rintro ⟨hreset, hlow⟩
      rcases hs with hs | hs
      · exact hs hreset
      · rw [hs] at hlow
        cases hlow
    · obtain ⟨hreply, hrestart, hpending, hpins, hstore⟩ := clockIn_restart hs htransaction hclock
      obtain ⟨t, ht, hafter, harray⟩ := deselectPanel_of_restart hrestart
      refine ⟨hreply, t, ht, ?_, ?_⟩
      · rw [← hpins]
        exact afterReset_congr hpending hpins hafter
      · exact arrayAcrossReset_congr hstore harray

end
